-- ==== Sys2Proof/Word.lean ====
section
/-!
DEFINITION. The words of the SD card protocol engine: bytes, 32-bit arguments, and the two fixed groups of bytes
the spec names (the six-byte frame, the four-byte payload). Bit 0 is the least significant bit (spec R16); every
value is unsigned (spec R15).
-/

namespace Sys2Proof

/-- A byte on the wire or in the block buffer (spec R16, R68). -/
abbrev Byte := BitVec 8

/-- A 32-bit unsigned value: command argument, block index, payload (spec R14, R29, R30). -/
abbrev Word32 := BitVec 32

/-- The six bytes of a command frame, `f0` sent first (spec R31, R90: "frame is always 6 bytes"). -/
structure Frame where
  f0 : Byte
  f1 : Byte
  f2 : Byte
  f3 : Byte
  f4 : Byte
  f5 : Byte
deriving DecidableEq, Repr

/-- The bytes of a frame in the order they are sent (spec R90, R132). -/
def Frame.bytes (f : Frame) : List Byte := [f.f0, f.f1, f.f2, f.f3, f.f4, f.f5]

/-- The four payload bytes of an R3 or R7 response, `p0` received first (spec R32, R96). -/
structure Payload where
  p0 : Byte
  p1 : Byte
  p2 : Byte
  p3 : Byte
deriving DecidableEq, Repr

/-- The payload bytes in the order they are received (spec R64). -/
def Payload.bytes (p : Payload) : List Byte := [p.p0, p.p1, p.p2, p.p3]

end Sys2Proof
end

