-- ==== Sys2Proof/Config.lean ====
section
/-!
DEFINITION. The implementation parameters of spec R14 and the model's free values.
A parameter to which the spec gives a value is a definition; a parameter marked OPEN is an argument of the model: it
stands in the record `Params`, which a state carries and no step changes (log 4), and after reset it is one of the
opaque constants below, of which no proof can see a value. The free values (the byte an environment without a script
answers, log 2; a buffer cell nothing has written, log 6) are opaque in the same way.
-/

namespace Sys2Proof

namespace Config

/-- `BLOCK_SIZE`: a block is 512 bytes (spec R14, R36). -/
def blockSize : Nat := 512

/-- `RESP_BUDGET`: the greatest number of polls for a status byte (spec R14, R150). -/
def respBudget : Nat := 10000

/-- `RESET_RETRIES`: the greatest number of command 0 attempts (spec R14, R182). -/
def resetRetries : Nat := 255

/-- `CRC7_CMD0` (spec R14, R133). -/
def crc7Cmd0 : BitVec 7 := 0x4A#7

/-- `CRC7_CMD8` (spec R14, R134). -/
def crc7Cmd8 : BitVec 7 := 0x43#7

/-- `CRC7_FILL`, the crc7 of the seven other commands (spec R14, D7). -/
def crc7Fill : BitVec 7 := 0x7F#7

/-- `FILL_BYTE`, sent whenever the engine only wants to receive (spec R14, D5). -/
def fillByte : Byte := 0xFF#8

/-- `DUMMY_CRC`, the first of the two CRC bytes sent with a written block (spec R14, D6). -/
def dummyCrc0 : Byte := 0xFF#8

/-- `DUMMY_CRC`, the second of the two CRC bytes sent with a written block (spec R14, D6). -/
def dummyCrc1 : Byte := 0xFF#8

/-- `START_TOKEN` (spec R14, R99). -/
def startToken : Byte := 0xFE#8

/-- `CMD8_ARG` (spec R14, R134). -/
def cmd8Arg : Word32 := 0x000001AA#32

/-- `ACMD41_HCS`, argument bit 30 (spec R14, R140). -/
def acmd41Hcs : Word32 := 0x40000000#32

/-- `CMD16_ARG`, the block length 512 (spec R14, R136). -/
def cmd16Arg : Word32 := 512#32

/-- `OP_READ_SINGLE` (spec R14, R137; from general knowledge by the spec's own mark, log 16). -/
def opReadSingle : BitVec 6 := 17#6

/-- `OP_WRITE_SINGLE` (spec R14, R138; from general knowledge by the spec's own mark, log 16). -/
def opWriteSingle : BitVec 6 := 24#6

/-- `OCR_VOLTAGE_MASK`, OCR bits 23:15 (spec R14, R98; from general knowledge by the spec's own mark, log 16). -/
def ocrVoltageMask : Word32 := 0x00FF8000#32

/-- `OCR_CCS_BIT` (spec R14, R98; from general knowledge by the spec's own mark, log 16). -/
def ocrCcsBit : Nat := 30

/-- `BUSY_BUDGET` less one: OPEN, a natural at least 1 (spec R14, D8). -/
opaque busyBudgetPred : Nat

/-- `TOKEN_BUDGET` less one: OPEN, a natural at least 1 (spec R14, D9). -/
opaque tokenBudgetPred : Nat

/-- `ACMD41_BUDGET` less one: OPEN, a natural at least 1 (spec R14, D10). -/
opaque acmd41BudgetPred : Nat

/-- `OCR_CHECK`: OPEN (spec R14, D21). -/
opaque ocrCheck : Bool

/-- `CLK_DIV_INIT`: OPEN, transport-defined (spec R14, D4). -/
opaque clkDivInit : Nat

/-- `CLK_DIV_FAST`: OPEN, transport-defined (spec R14, D4). -/
opaque clkDivFast : Nat

/-- FREE VALUE (log 2): the byte the environment answers to the n-th exchange made after its script ran out.
Spec R20, U16: the environment is under no law. -/
opaque envByte : Nat → Byte

/-- FREE VALUE (log 6): what a buffer cell holds that nothing has written since reset. Spec R36, R46: unspecified. -/
opaque unwrittenBuf : Nat → Byte

end Config

/-- The OPEN parameters of spec R14. They are fixed for the life of the hardware; a state carries them so that a test
vector can name the values it uses (spec R14), and no step changes them (log 4). -/
structure Params where
  /-- `BUSY_BUDGET` (spec R152, R218). -/
  busyBudget : Nat
  /-- `TOKEN_BUDGET` (spec R212). -/
  tokenBudget : Nat
  /-- `ACMD41_BUDGET` (spec R185). -/
  acmd41Budget : Nat
  /-- `OCR_CHECK` (spec R184). -/
  ocrCheck : Bool
  /-- `CLK_DIV_INIT` (spec R181). -/
  clkDivInit : Nat
  /-- `CLK_DIV_FAST` (spec R188). -/
  clkDivFast : Nat
deriving DecidableEq, Repr

/-- The parameter values admissible by spec R14: each budget is at least 1. -/
abbrev Params.Admissible (p : Params) : Prop :=
  1 ≤ p.busyBudget ∧ 1 ≤ p.tokenBudget ∧ 1 ≤ p.acmd41Budget

/-- The parameters of the build at hand, every one of them open. -/
def Config.params : Params where
  busyBudget := Config.busyBudgetPred + 1
  tokenBudget := Config.tokenBudgetPred + 1
  acmd41Budget := Config.acmd41BudgetPred + 1
  ocrCheck := Config.ocrCheck
  clkDivInit := Config.clkDivInit
  clkDivFast := Config.clkDivFast

end Sys2Proof
end

