-- ==== Sys2Proof/Syntax.lean ====
section
/-!
DEFINITION. The instructions: one constructor per row of spec/opcode_table.json. What the spec's checklist calls an
instruction is a command frame the engine emits, a response or data byte group it decodes or sends, or a host
operation (spec INDEX, "How the checklist's processor terms map onto this hardware"). A constructor's arguments are
the fields of its encoding that vary.
-/

namespace Sys2Proof

/-- The five response shapes (spec R32, R93 to R96). -/
inductive Shape where
  | r1
  | r1b
  | r2
  | r3
  | r7
deriving DecidableEq, Repr

/-- One constructor per row of spec/opcode_table.json. -/
inductive Instr where
  /-- CMD0, software reset (spec R133). -/
  | cmd0
  /-- CMD8, interface condition (spec R134). -/
  | cmd8
  /-- CMD13, status (spec R135). -/
  | cmd13
  /-- CMD16, set block length (spec R136). -/
  | cmd16
  /-- CMD17, single-block read command, with its argument (spec R137). -/
  | cmd17 (addr : Word32)
  /-- CMD24, single-block write command, with its argument (spec R138). -/
  | cmd24 (addr : Word32)
  /-- CMD55, the application-command prefix (spec R139). -/
  | cmd55
  /-- ACMD41, with its argument bit 30 (spec R140). -/
  | acmd41 (hcs : Bool)
  /-- CMD58, read operating-conditions register (spec R141). -/
  | cmd58
  /-- A byte with bit 7 set, received while a status byte is awaited; `x` is its bits 6:0 (spec R93, R150). -/
  | filler (x : BitVec 7)
  /-- Response R1; `s` is bits 6:0 of the status byte, bit 7 being 0 (spec R93, R151). -/
  | r1 (s : BitVec 7)
  /-- Response R1b: the status byte, then `zeros` busy bytes 0x00, then the non-zero byte `last` (spec R94, R152). -/
  | r1b (s : BitVec 7) (zeros : Nat) (last : Byte)
  /-- Response R2: the status byte and the second status byte `t`. With the illegal-command bit of `s` set the second
  byte is not on the wire, and a well-formed term has `t = 0` (spec R95, R153, R157). -/
  | r2 (s : BitVec 7) (t : Byte)
  /-- Response R3: the status byte and the 32-bit payload. With the illegal-command bit of `s` set the payload is not
  on the wire, and a well-formed term has a payload of zero bytes (spec R96, R154, R157). -/
  | r3 (s : BitVec 7) (p : Payload)
  /-- Response R7: the layout of R3 (spec R96, R155). -/
  | r7 (s : BitVec 7) (p : Payload)
  /-- The start token 0xFE, received before a read block and sent before a written one (spec R99, R100). -/
  | startToken
  /-- The data block of a read: 512 payload bytes and two CRC bytes (spec R99). -/
  | readData (payload : List Byte) (crc0 crc1 : Byte)
  /-- The data block of a write: 512 payload bytes; its two CRC bytes are fixed (spec R100). -/
  | writeData (payload : List Byte)
  /-- The data-response byte: bits 7:5, which are ignored, and the response code (spec R101). -/
  | dataResp (ignored : BitVec 3) (code : BitVec 5)
  /-- Host operation code 0: no operation (spec R104). -/
  | nop
  /-- Host operation INIT (spec R104, R180). -/
  | init
  /-- Host operation READ_BLOCK (spec R104, R211). -/
  | readBlock (index : Word32)
  /-- Host operation WRITE_BLOCK (spec R104, R215). -/
  | writeBlock (index : Word32)
deriving DecidableEq, Repr

end Sys2Proof
end

