-- ==== Sys2Proof/WellFormed.lean ====
section
/-!
DEFINITION. Which terms of `Instr` stand for words that exist: the fields the types do not already bound.
-/

namespace Sys2Proof

/-- The illegal-command bit of a status given without its bit 7 (spec R93: bit 2). -/
def illegalOf (s : BitVec 7) : Bool := s.getLsbD 2

/-- A term of `Instr` is well-formed when it is the reading of some word:
the byte that ends a busy-wait is not zero (spec R94); a response with the illegal-command bit set has no extension
on the wire, written as zeros (spec R157); a data block has 512 payload bytes (spec R99, R100). -/
def Instr.wellFormed : Instr → Bool
  | .cmd0 => true
  | .cmd8 => true
  | .cmd13 => true
  | .cmd16 => true
  | .cmd17 _ => true
  | .cmd24 _ => true
  | .cmd55 => true
  | .acmd41 _ => true
  | .cmd58 => true
  | .filler _ => true
  | .r1 _ => true
  | .r1b _ _ last => last != 0#8
  | .r2 s t => !illegalOf s || t == 0#8
  | .r3 s p => !illegalOf s || p == ⟨0#8, 0#8, 0#8, 0#8⟩
  | .r7 s p => !illegalOf s || p == ⟨0#8, 0#8, 0#8, 0#8⟩
  | .startToken => true
  | .readData payload _ _ => payload.length == Config.blockSize
  | .writeData payload => payload.length == Config.blockSize
  | .dataResp _ _ => true
  | .nop => true
  | .init => true
  | .readBlock _ => true
  | .writeBlock _ => true

end Sys2Proof
end

