-- ==== Sys2Proof/Decode.lean ====
section
/-!
DEFINITION. Every format of spec/30_encoding.md, as a decoder that is total on bytes and rejects by name, and the
encoder that writes the words of an instruction. Which format a byte group has is not in the bytes: it follows from
where the engine stands (spec R103), so a decoder is given a `Channel`.
-/

namespace Sys2Proof

/-- Where a byte group is read or written (spec R90, R93, R99, R100, R101, R104). -/
inductive Channel where
  /-- The host's request: the operation code, then the index (spec R104, log 9). -/
  | host
  /-- A command frame (spec R90). -/
  | command
  /-- A response of the shape asked for (spec R103). -/
  | response (shape : Shape)
  /-- The start token (spec R99, R100). -/
  | token
  /-- A data block from the card (spec R99). -/
  | dataIn
  /-- A data block to the card (spec R100). -/
  | dataOut
  /-- The data-response byte (spec R101). -/
  | dataResp
deriving DecidableEq, Repr

/-- Why a byte group is no word of its channel. -/
inductive DecodeError where
  /-- The bytes end before the word does. -/
  | truncated
  /-- Bits 47:46 of a frame are not `0b01` (spec R90). -/
  | noFrameStart
  /-- Bit 0 of a frame is not 1 (spec R90). -/
  | noEndBit
  /-- The opcode is none of the nine the engine emits (spec R92, R102 a). -/
  | opcodeNotInSet
  /-- The argument is not one the engine emits with this opcode (spec R92). -/
  | argumentNotOfCommand
  /-- The crc7 is not the one the engine emits with this opcode (spec R92). -/
  | crcNotOfCommand
  /-- The byte is not 0xFE (spec R99). -/
  | notStartToken
  /-- The two bytes after a written block are not the dummy CRC (spec R100). -/
  | crcNotDummy
  /-- The byte that holds a host operation code has a bit set outside its bits 1:0 (spec R104, log 9). -/
  | notHostOperation
deriving DecidableEq, Repr

/-- Four bytes as a 32-bit value, the first the most significant (spec R63, R64). -/
def word32 (a b c d : Byte) : Word32 := a ++ b ++ c ++ d

/-- The bytes of a 32-bit value, the most significant first (spec R63). -/
def bytes32 (w : Word32) : List Byte :=
  [w.extractLsb' 24 8, w.extractLsb' 16 8, w.extractLsb' 8 8, w.extractLsb' 0 8]

/-- `Encode(opcode, argument, crc7)` (spec R130, R90). -/
def encodeFrame (opcode : BitVec 6) (argument : Word32) (crc7 : BitVec 7) : Frame where
  f0 := 0b01#2 ++ opcode
  f1 := argument.extractLsb' 24 8
  f2 := argument.extractLsb' 16 8
  f3 := argument.extractLsb' 8 8
  f4 := argument.extractLsb' 0 8
  f5 := crc7 ++ 0b1#1

/-- The three fields of a command frame (spec R90). -/
structure CommandFields where
  opcode : BitVec 6
  argument : Word32
  crc7 : BitVec 7
deriving DecidableEq, Repr

/-- The command set of spec R92 (rules R133 to R141): the fields of each of the nine commands. -/
def commandFields : Instr → Option CommandFields
  | .cmd0 => some ⟨0#6, 0#32, Config.crc7Cmd0⟩
  | .cmd8 => some ⟨8#6, Config.cmd8Arg, Config.crc7Cmd8⟩
  | .cmd13 => some ⟨13#6, 0#32, Config.crc7Fill⟩
  | .cmd16 => some ⟨16#6, Config.cmd16Arg, Config.crc7Fill⟩
  | .cmd17 addr => some ⟨Config.opReadSingle, addr, Config.crc7Fill⟩
  | .cmd24 addr => some ⟨Config.opWriteSingle, addr, Config.crc7Fill⟩
  | .cmd55 => some ⟨55#6, 0#32, Config.crc7Fill⟩
  | .acmd41 hcs => some ⟨41#6, if hcs then Config.acmd41Hcs else 0#32, Config.crc7Fill⟩
  | .cmd58 => some ⟨58#6, 0#32, Config.crc7Fill⟩
  | .filler _ => none
  | .r1 _ => none
  | .r1b _ _ _ => none
  | .r2 _ _ => none
  | .r3 _ _ => none
  | .r7 _ _ => none
  | .startToken => none
  | .readData _ _ _ => none
  | .writeData _ => none
  | .dataResp _ _ => none
  | .nop => none
  | .init => none
  | .readBlock _ => none
  | .writeBlock _ => none

/-- The command an opcode names, its operand taken from the argument (spec R92). -/
def commandOfOpcode (opcode : BitVec 6) (argument : Word32) : Option Instr :=
  if opcode = 0#6 then some .cmd0
  else if opcode = 8#6 then some .cmd8
  else if opcode = 13#6 then some .cmd13
  else if opcode = 16#6 then some .cmd16
  else if opcode = Config.opReadSingle then some (.cmd17 argument)
  else if opcode = Config.opWriteSingle then some (.cmd24 argument)
  else if opcode = 55#6 then some .cmd55
  else if opcode = 41#6 then some (.acmd41 (argument.getLsbD 30))
  else if opcode = 58#6 then some .cmd58
  else none

/-- The command with these fields: the opcode names it, and argument and crc7 must be those the engine emits with it
(spec R92, R142). -/
def recogniseCommand (f : CommandFields) : Except DecodeError Instr :=
  match commandOfOpcode f.opcode f.argument with
  | none => .error .opcodeNotInSet
  | some i =>
    match commandFields i with
    | none => .error .opcodeNotInSet
    | some g =>
      if g.argument ≠ f.argument then .error .argumentNotOfCommand
      else if g.crc7 ≠ f.crc7 then .error .crcNotOfCommand
      else .ok i

/-- A command frame read back (spec R90, R131: `opcode = f[0][5:0]`, `argument = f[1] ++ f[2] ++ f[3] ++ f[4]`,
`crc7 = f[5][7:1]`). -/
def decodeFrame (f : Frame) : Except DecodeError Instr :=
  if f.f0.extractLsb' 6 2 ≠ 0b01#2 then .error .noFrameStart
  else if f.f5.getLsbD 0 = false then .error .noEndBit
  else recogniseCommand ⟨f.f0.extractLsb' 0 6, word32 f.f1 f.f2 f.f3 f.f4, f.f5.extractLsb' 1 7⟩

/-- How many bytes follow the status byte of a response of this shape (spec R103): none for R1; one for R2 and four
for R3 and R7, unless the illegal-command bit is set. The busy-wait of R1b has no fixed length. -/
def extensionLength (shape : Shape) (status : Byte) : Nat :=
  match shape with
  | .r1 => 0
  | .r1b => 0
  | .r2 => if status.getLsbD 2 then 0 else 1
  | .r3 => if status.getLsbD 2 then 0 else 4
  | .r7 => if status.getLsbD 2 then 0 else 4

/-- The payload of a response of shape R3 or R7 (spec R96). -/
def takePayload : List Byte → Except DecodeError (Payload × List Byte)
  | p0 :: p1 :: p2 :: p3 :: rest => .ok (⟨p0, p1, p2, p3⟩, rest)
  | _ => .error .truncated

/-- The busy bytes of R1b: how many 0x00 bytes stand before the first non-zero byte, and that byte (spec R94). -/
def takeBusy : List Byte → Except DecodeError (Nat × Byte × List Byte)
  | [] => .error .truncated
  | b :: rest =>
    if b = 0#8 then
      match takeBusy rest with
      | .ok (n, last, rest') => .ok (n + 1, last, rest')
      | .error e => .error e
    else .ok (0, b, rest)

/-- The rest of a response whose status byte is `0 ++ s` (spec R103). -/
def decodeStatus (shape : Shape) (s : BitVec 7) (rest : List Byte) : Except DecodeError (Instr × List Byte) :=
  match shape with
  | .r1 => .ok (.r1 s, rest)
  | .r1b =>
    match takeBusy rest with
    | .ok (n, last, rest') => .ok (.r1b s n last, rest')
    | .error e => .error e
  | .r2 =>
    if s.getLsbD 2 then .ok (.r2 s 0#8, rest)
    else
      match rest with
      | t :: rest' => .ok (.r2 s t, rest')
      | [] => .error .truncated
  | .r3 =>
    if s.getLsbD 2 then .ok (.r3 s ⟨0#8, 0#8, 0#8, 0#8⟩, rest)
    else
      match takePayload rest with
      | .ok (p, rest') => .ok (.r3 s p, rest')
      | .error e => .error e
  | .r7 =>
    if s.getLsbD 2 then .ok (.r7 s ⟨0#8, 0#8, 0#8, 0#8⟩, rest)
    else
      match takePayload rest with
      | .ok (p, rest') => .ok (.r7 s p, rest')
      | .error e => .error e

/-- A byte received while a response is awaited: bit 7 set is a filler, bit 7 clear the status byte (spec R93). -/
def decodeResponse (shape : Shape) : List Byte → Except DecodeError (Instr × List Byte)
  | [] => .error .truncated
  | b :: rest =>
    if b.getLsbD 7 then .ok (.filler (b.extractLsb' 0 7), rest)
    else decodeStatus shape (b.extractLsb' 0 7) rest

/-- The start token, tested by equality with 0xFE (spec R99). -/
def decodeToken : List Byte → Except DecodeError (Instr × List Byte)
  | [] => .error .truncated
  | b :: rest => if b = Config.startToken then .ok (.startToken, rest) else .error .notStartToken

/-- A data block from the card: 0xFE, 512 payload bytes, two CRC bytes of any value (spec R99, R214). -/
def decodeDataIn : List Byte → Except DecodeError (Instr × List Byte)
  | [] => .error .truncated
  | b :: rest =>
    if b ≠ Config.startToken then .error .notStartToken
    else
      match rest.drop Config.blockSize with
      | c0 :: c1 :: rest' => .ok (.readData (rest.take Config.blockSize) c0 c1, rest')
      | _ => .error .truncated

/-- A data block to the card: 0xFE, 512 payload bytes, 0xFF, 0xFF (spec R100). -/
def decodeDataOut : List Byte → Except DecodeError (Instr × List Byte)
  | [] => .error .truncated
  | b :: rest =>
    if b ≠ Config.startToken then .error .notStartToken
    else
      match rest.drop Config.blockSize with
      | c0 :: c1 :: rest' =>
        if c0 = Config.dummyCrc0 ∧ c1 = Config.dummyCrc1 then .ok (.writeData (rest.take Config.blockSize), rest')
        else .error .crcNotDummy
      | _ => .error .truncated

/-- The data-response byte: every byte is one (spec R101, R102 e). -/
def decodeDataResp : List Byte → Except DecodeError (Instr × List Byte)
  | [] => .error .truncated
  | b :: rest => .ok (.dataResp (b.extractLsb' 5 3) (b.extractLsb' 0 5), rest)

/-- The operation a host request asks for (spec R104). -/
def decodeRequest (op : BitVec 2) (index : Word32) : Instr :=
  if op = 1#2 then .init
  else if op = 2#2 then .readBlock index
  else if op = 3#2 then .writeBlock index
  else .nop

/-- A host request as bytes: the operation code in bits 1:0 of the first, then for the block operations the index,
most significant byte first (spec R104; the byte form is the model's, log 9). -/
def decodeHost : List Byte → Except DecodeError (Instr × List Byte)
  | [] => .error .truncated
  | b :: rest =>
    if b.extractLsb' 2 6 ≠ 0#6 then .error .notHostOperation
    else if b.getLsbD 1 then
      match rest with
      | i0 :: i1 :: i2 :: i3 :: rest' => .ok (decodeRequest (b.extractLsb' 0 2) (word32 i0 i1 i2 i3), rest')
      | _ => .error .truncated
    else .ok (decodeRequest (b.extractLsb' 0 2) 0#32, rest)

/-- A command frame as bytes (spec R90: byte 0 first). -/
def decodeCommand : List Byte → Except DecodeError (Instr × List Byte)
  | f0 :: f1 :: f2 :: f3 :: f4 :: f5 :: rest =>
    match decodeFrame ⟨f0, f1, f2, f3, f4, f5⟩ with
    | .ok i => .ok (i, rest)
    | .error e => .error e
  | _ => .error .truncated

/-- The instruction at the head of a byte list on a channel, with the bytes after it, or why there is none. -/
def decode (c : Channel) (bytes : List Byte) : Except DecodeError (Instr × List Byte) :=
  match c with
  | .host => decodeHost bytes
  | .command => decodeCommand bytes
  | .response shape => decodeResponse shape bytes
  | .token => decodeToken bytes
  | .dataIn => decodeDataIn bytes
  | .dataOut => decodeDataOut bytes
  | .dataResp => decodeDataResp bytes

/-- The channel on which an instruction's words stand. A filler can stand before a response of any shape; the shape
R1 is named for it. -/
def channelOf : Instr → Channel
  | .cmd0 => .command
  | .cmd8 => .command
  | .cmd13 => .command
  | .cmd16 => .command
  | .cmd17 _ => .command
  | .cmd24 _ => .command
  | .cmd55 => .command
  | .acmd41 _ => .command
  | .cmd58 => .command
  | .filler _ => .response .r1
  | .r1 _ => .response .r1
  | .r1b _ _ _ => .response .r1b
  | .r2 _ _ => .response .r2
  | .r3 _ _ => .response .r3
  | .r7 _ _ => .response .r7
  | .startToken => .token
  | .readData _ _ _ => .dataIn
  | .writeData _ => .dataOut
  | .dataResp _ _ => .dataResp
  | .nop => .host
  | .init => .host
  | .readBlock _ => .host
  | .writeBlock _ => .host

/-- The bytes of a command's frame, from the command set of spec R92. -/
def encodeCommand (i : Instr) : List Byte :=
  match commandFields i with
  | some f => (encodeFrame f.opcode f.argument f.crc7).bytes
  | none => []

/-- The status byte with bits 6:0 `s`: bit 7 is 0 (spec R93). -/
def statusByte (s : BitVec 7) : Byte := 0b0#1 ++ s

/-- The filler byte with bits 6:0 `x`: bit 7 is 1 (spec R93). -/
def fillerByte (x : BitVec 7) : Byte := 0b1#1 ++ x

/-- The data-response byte (spec R101). -/
def dataRespByte (ignored : BitVec 3) (code : BitVec 5) : Byte := ignored ++ code

/-- The words of a well-formed instruction, as bytes in the order they stand on their channel, from the encodings of
spec R90 to R104. -/
def encode : Instr → List Byte
  | .cmd0 => encodeCommand .cmd0
  | .cmd8 => encodeCommand .cmd8
  | .cmd13 => encodeCommand .cmd13
  | .cmd16 => encodeCommand .cmd16
  | .cmd17 addr => encodeCommand (.cmd17 addr)
  | .cmd24 addr => encodeCommand (.cmd24 addr)
  | .cmd55 => encodeCommand .cmd55
  | .acmd41 hcs => encodeCommand (.acmd41 hcs)
  | .cmd58 => encodeCommand .cmd58
  | .filler x => [fillerByte x]
  | .r1 s => [statusByte s]
  | .r1b s zeros last => statusByte s :: (List.replicate zeros 0#8 ++ [last])
  | .r2 s t => if s.getLsbD 2 then [statusByte s] else [statusByte s, t]
  | .r3 s p => if s.getLsbD 2 then [statusByte s] else statusByte s :: p.bytes
  | .r7 s p => if s.getLsbD 2 then [statusByte s] else statusByte s :: p.bytes
  | .startToken => [Config.startToken]
  | .readData payload crc0 crc1 => Config.startToken :: (payload ++ [crc0, crc1])
  | .writeData payload => Config.startToken :: (payload ++ [Config.dummyCrc0, Config.dummyCrc1])
  | .dataResp ignored code => [dataRespByte ignored code]
  | .nop => [0x00#8]
  | .init => [0x01#8]
  | .readBlock index => 0x02#8 :: bytes32 index
  | .writeBlock index => 0x03#8 :: bytes32 index

/-- The `n` bytes of a table word, the first byte in the most significant place: spec/opcode_table.json numbers a
frame as one 48-bit value with byte 0 in bits 47:40 (spec R90), and its other rows in the same way (log 9). -/
def tableBytes : Nat → Nat → List Byte
  | 0, _ => []
  | n + 1, w => BitVec.ofNat 8 (w / 256 ^ n) :: tableBytes n w

/-- The channel of a one-byte table word (log 9). The table's one-byte rows share words, so the reading with the most
fixed bits wins: a host operation code (bits 7:2 zero), then the start token, then an accepted data response (low
five bits 00101), and every other byte is read while a response is awaited. -/
def byteChannel (b : Byte) : Channel :=
  if b.extractLsb' 2 6 = 0#6 then .host
  else if b = Config.startToken then .token
  else if b.extractLsb' 0 5 = 0b00101#5 then .dataResp
  else .response .r1

/-- The channel of a table word, by its size in bits (log 9): one byte as `byteChannel` says, two bytes R2, five bytes
R3, six bytes a frame, 515 bytes a read block. -/
def tableChannel (nbits w : Nat) : Option Channel :=
  if nbits ≤ 8 then some (byteChannel (BitVec.ofNat 8 w))
  else if nbits = 16 then some (.response .r2)
  else if nbits = 40 then some (.response .r3)
  else if nbits = 48 then some .command
  else if nbits = 4120 then some .dataIn
  else none

/-- The instruction the decoder reads from a table word; the operand bytes the table gives no bits (the index of a
block operation) are zero. -/
def decodeTableWord (nbits w : Nat) : Option Instr :=
  match tableChannel nbits w with
  | none => none
  | some c =>
    match decode c (tableBytes ((nbits + 7) / 8) w ++ [0#8, 0#8, 0#8, 0#8]) with
    | .ok (i, _) => some i
    | .error _ => none

end Sys2Proof
end

