-- ==== Sys2Proof/Machine/State.lean ====
section
/-!
DEFINITION. The state of the engine: every register of spec/10_state.md, the block buffer, the sequencer and the bus
trace, and beside them the model's own inputs (the host's moves, the environment's answers, the open parameters).
Plain data throughout.
-/

namespace Sys2Proof.Machine

/-- `cs.versionClass` (spec R21). -/
inductive VersionClass where
  | unknown
  | legacy
  | v2
deriving DecidableEq, Repr

/-- The two capacity classes of a card (spec R22, R35, R170). -/
inductive Capacity where
  | standard
  | high
deriving DecidableEq, Repr

/-- `cs.capacityClass` (spec R22): no class known yet, or one of the two. -/
inductive CapacityClass where
  | unknown
  | known (c : Capacity)
deriving DecidableEq, Repr

/-- CardState (spec R19, R21 to R23). -/
structure CardState where
  versionClass : VersionClass
  capacityClass : CapacityClass
  writeProtected : Bool
deriving DecidableEq, Repr

/-- The session phase (spec R24, R251). -/
inductive Phase where
  | uninit
  | ready
  | failed
deriving DecidableEq, Repr

/-- The failure reasons, with the code `WriteRejected` carries (spec R240). -/
inductive Reason where
  | timeout
  | illegalCommand
  | voltageMismatch
  | patternMismatch
  | writeRejected (code : BitVec 5)
  | cardStatusError
  | notInitialized
  | busError
deriving DecidableEq, Repr

/-- The result codes of `res_code` and `fail_reason` (spec R240); codes 9 to 15 never occur. -/
inductive ResCode where
  | ok
  | timeout
  | illegalCommand
  | voltageMismatch
  | patternMismatch
  | writeRejected
  | cardStatusError
  | notInitialized
  | busError
deriving DecidableEq, Repr

/-- The program points of spec R39. The points I2_PAY, I3_PAY, I5_PAY, R_CRC, W_CRC and W_ST_EXT are passed inside the
step of the response or data block they belong to (spec R39 lets a model merge points; log 1). The point FAIL carries
the reason its exit delivers (log 19). -/
inductive Seq where
  | idle
  | iClk
  | iSel
  | i1Send
  | i1Resp
  | i2Send
  | i2Resp
  | i3Send
  | i3Resp
  | i4aSend
  | i4aResp
  | i4bSend
  | i4bResp
  | i5Send
  | i5Resp
  | i6Send
  | i6Resp
  | iDone
  | iFast
  | rSel
  | rSend
  | rResp
  | rToken
  | rData
  | rDesel
  | wSel
  | wSend
  | wResp
  | wToken
  | wData
  | wDresp
  | wBusy
  | wStSend
  | wStResp
  | wDesel
  | fail (r : Reason)
deriving DecidableEq, Repr

/-- One event of the bus trace (spec R44, R106). -/
inductive BusEvent where
  /-- `Sel`: chip-select asserted. -/
  | sel
  /-- `Desel`: chip-select released. -/
  | desel
  /-- `Clk(n)`: clock divider `n` asked for. -/
  | clk (n : Nat)
  /-- `X(out, in)`: one exchange that sent `out` and received `inn`. -/
  | x (out inn : Byte)
deriving DecidableEq, Repr

/-- What the host can do to the engine, and only while it is idle (spec R41, R104; log 3). -/
inductive HostMove where
  /-- Present an operation code and an index (spec R104). -/
  | request (op : BitVec 2) (index : Word32)
  /-- Write one cell of the block buffer (spec R36, R61). -/
  | bufWrite (a : BitVec 9) (b : Byte)
deriving DecidableEq, Repr

/-- The block buffer: the cells that hold a value, by address (spec R36, R60). Its one canonical form is
`Memory.wf` in Machine/Ops.lean. -/
abbrev Memory := List Host.Cell

/-- The state of the machine. The first group is spec/10_state.md, register by register; the last four fields are the
model's own. -/
structure State where
  /-- `cs` (spec R21 to R23). -/
  cs : CardState
  /-- `phase` (spec R24). -/
  phase : Phase
  /-- `fail_reason` (spec R25). -/
  failReason : ResCode
  /-- `busy` (spec R26). -/
  busy : Bool
  /-- `done` (spec R26). -/
  done : Bool
  /-- `res_code` (spec R27). -/
  resCode : ResCode
  /-- `res_info` (spec R28). -/
  resInfo : BitVec 5
  /-- `op` (spec R29). -/
  op : BitVec 2
  /-- `index` (spec R29). -/
  index : Word32
  /-- `addr` (spec R30). -/
  addr : Word32
  /-- `frame[0..5]` (spec R31). -/
  frame : Frame
  /-- `tok_shape` (spec R32). -/
  tokShape : Shape
  /-- `status` (spec R32). -/
  status : Byte
  /-- `status2` (spec R32). -/
  status2 : Byte
  /-- `payload[0..3]` (spec R32). -/
  payload : Payload
  /-- `ext_valid` (spec R32). -/
  extValid : Bool
  /-- `dresp` (spec R37). -/
  dresp : Byte
  /-- `poll_cnt` (spec R34). -/
  pollCnt : Nat
  /-- `retry_cnt` (spec R34). -/
  retryCnt : Nat
  /-- `acmd_cnt` (spec R34). -/
  acmdCnt : Nat
  /-- `busy_cnt` (spec R34). -/
  busyCnt : Nat
  /-- `tok_cnt` (spec R34). -/
  tokCnt : Nat
  /-- `byte_idx` (spec R34). -/
  byteIdx : Nat
  /-- `cap_pending` (spec R35). -/
  capPending : Capacity
  /-- `buf[0..511]` (spec R36). -/
  buf : Memory
  /-- `seq` (spec R38). -/
  seq : Seq
  /-- The bus trace, oldest event first (spec R44). -/
  trace : List BusEvent
  /-- The model's own: the open parameters, changed by no step (log 4). -/
  params : Params
  /-- The model's own: what the host will do next (log 3). -/
  hostQ : List HostMove
  /-- The model's own: the bytes the environment will answer next (log 2). -/
  env : List Byte
  /-- The model's own: how many free bytes were drawn after `env` ran out (log 2). -/
  envDrawn : Nat
deriving DecidableEq, Repr

/-- Why the machine stops. A failure of an operation is no fault: it is a next state (spec R240 to R247). -/
inductive Fault where
  /-- Raised by the sequencer at R_SEL and W_SEL when `cs.capacityClass` is Unknown: spec R173 forbids giving the
  translator a value there. Safe: no run from reset gets there (spec R40 a), and the machine only stops. -/
  | translateUnknown
deriving DecidableEq, Repr

/-- Why there is no meaning. -/
inductive Refusal where
  /-- Raised by an arm of `exec` whose instruction has no meaning yet; safe. No arm raises it in this model. -/
  | notModelled (mnemonic : String)
  /-- Raised by `step` when the bytes read at a program point are no word of that point's channel; safe. No state
  raises it: the sequencer draws as many bytes as the word has. -/
  | undecoded
deriving DecidableEq, Repr

/-- The machine right after hardware reset (spec R46, R280). The values of `cs`, `phase`, `busy`, `done`, `extValid`,
`seq` and `trace` are the spec's; the other registers are unspecified there and hold the values log 5 names; no buffer
cell holds a value (log 6). Nothing is placed for the host or the environment to do. -/
def State.reset : State where
  cs := { versionClass := .unknown, capacityClass := .unknown, writeProtected := false }
  phase := .uninit
  failReason := .ok
  busy := false
  done := false
  resCode := .ok
  resInfo := 0#5
  op := 0#2
  index := 0#32
  addr := 0#32
  frame := ⟨0#8, 0#8, 0#8, 0#8, 0#8, 0#8⟩
  tokShape := .r1
  status := 0#8
  status2 := 0#8
  payload := ⟨0#8, 0#8, 0#8, 0#8⟩
  extValid := false
  dresp := 0#8
  pollCnt := 0
  retryCnt := 0
  acmdCnt := 0
  busyCnt := 0
  tokCnt := 0
  byteIdx := 0
  capPending := .standard
  buf := []
  seq := .idle
  trace := []
  params := Config.params
  hostQ := []
  env := []
  envDrawn := 0

end Sys2Proof.Machine
end

