-- ==== Sys2Proof/Machine/Ops.lean ====
section
/-!
DEFINITION. The named operations every meaning is built from: the environment's answers, the bus primitives of spec
R18, the block buffer of spec R61, `Send` of spec R132, and the two ways an operation ends (success and failure).
-/

namespace Sys2Proof.Machine

/-! ### The block buffer (spec R36, R60, R61) -/

/-- The cell at an address, if it holds a value (spec R61 `MemRead`). -/
def Memory.read : Memory → Nat → Option Byte
  | [], _ => none
  | (a', b) :: m, a => if a = a' then some b else Memory.read m a

/-- The buffer with one cell written (spec R61 `MemWrite`). -/
def Memory.write : Memory → Nat → Byte → Memory
  | [], a, b => [(a, b)]
  | (a', b') :: m, a, b =>
    if a < a' then (a, b) :: (a', b') :: m
    else if a = a' then (a, b) :: m
    else (a', b') :: Memory.write m a b

/-- The buffer with consecutive cells written from an address upward (spec R65: ascending order). -/
def Memory.writeBytes : Memory → Nat → List Byte → Memory
  | m, _, [] => m
  | m, a, b :: bs => Memory.writeBytes (Memory.write m a b) (a + 1) bs

/-- Addresses strictly rising, none below `lo`, all in 0..511 (spec R60). -/
def Memory.risingFrom : Nat → Memory → Bool
  | _, [] => true
  | lo, (a, _) :: m => decide (lo ≤ a) && decide (a < Config.blockSize) && Memory.risingFrom (a + 1) m

/-- The canonical form of the buffer: strictly rising addresses in 0..511 (spec R60). An unlisted cell holds no value
(log 6), so no entry can equal what an unlisted address reads as. -/
def Memory.wf (m : Memory) : Bool := Memory.risingFrom 0 m

/-- The byte a cell holds: the value written last, or the cell's free value where nothing was written (spec R36,
R46; log 6). -/
def bufByte (m : Memory) (a : Nat) : Byte := (Memory.read m a).getD (Config.unwrittenBuf a)

/-- The 512 bytes of the block, in ascending address (spec R65). -/
def bufBytes (m : Memory) : List Byte := (List.range Config.blockSize).map (bufByte m)

/-! ### The environment (spec R20 c, U16) -/

/-- The byte the environment answers to the next exchange: the next byte of the script, or a free byte when the script
has run out (log 2). -/
def draw (s : State) : Byte × State :=
  match s.env with
  | b :: rest => (b, { s with env := rest })
  | [] => (Config.envByte s.envDrawn, { s with envDrawn := s.envDrawn + 1 })

/-- The answers to the next `n` exchanges, in order. -/
def drawN : Nat → State → List Byte × State
  | 0, s => ([], s)
  | n + 1, s => ((draw s).1 :: (drawN n (draw s).2).1, (drawN n (draw s).2).2)

/-! ### The bus primitives (spec R18) -/

/-- One event at the end of the bus trace (spec R44). -/
def emit (e : BusEvent) (s : State) : State := { s with trace := s.trace ++ [e] }

/-- `Select()` (spec R18, R254). -/
def busSelect (s : State) : State := emit .sel s

/-- `Deselect()` (spec R18, R254). -/
def busDeselect (s : State) : State := emit .desel s

/-- `SetClk(n)` (spec R18, R254). -/
def busSetClk (n : Nat) (s : State) : State := emit (.clk n) s

/-- `_ <- Xchg(out)`: the byte received is dropped (spec R18, R132, R216). -/
def xchgSend (out : Byte) (s : State) : State := emit (.x out (draw s).1) (draw s).2

/-- `Xchg(FILL_BYTE)` with the byte received already drawn by the sequencer (spec R18, D5). -/
def xchgRecv (b : Byte) (s : State) : State := emit (.x Config.fillByte b) s

/-- `byte_idx` cleared, as at the entry of its loops (spec R34). -/
def clearByteIdx (s : State) : State := { s with byteIdx := 0 }

/-- `byte_idx` counted up (spec R34). -/
def countByte (s : State) : State := { s with byteIdx := s.byteIdx + 1 }

/-- Bytes sent one exchange each, in order, `byte_idx` counting (spec R132, R216). -/
def sendBytes : List Byte → State → State
  | [], s => s
  | b :: bs, s => sendBytes bs (countByte (xchgSend b s))

/-- Bytes received one exchange each, in order, `byte_idx` counting (spec R154, R213, R214). -/
def recvBytes : List Byte → State → State
  | [], s => s
  | b :: bs, s => recvBytes bs (countByte (xchgRecv b s))

/-! ### The sequencer register (spec R38) -/

/-- `seq <- p` (spec R18). -/
def goto (p : Seq) (s : State) : State := { s with seq := p }

/-- `fail <reason>`: the operation is abandoned and its exit follows at the FAIL point (spec R18, R39, R245). -/
def raise (r : Reason) (s : State) : State := goto (.fail r) s

/-! ### Sending a command (spec R132) -/

/-- The point at which the response to the command sent at a point is read (spec R39). -/
def Seq.afterSend : Seq → Seq
  | .i1Send => .i1Resp
  | .i2Send => .i2Resp
  | .i3Send => .i3Resp
  | .i4aSend => .i4aResp
  | .i4bSend => .i4bResp
  | .i5Send => .i5Resp
  | .i6Send => .i6Resp
  | .rSend => .rResp
  | .wSend => .wResp
  | .wStSend => .wStResp
  | .idle => .idle
  | .iClk => .iClk
  | .iSel => .iSel
  | .i1Resp => .i1Resp
  | .i2Resp => .i2Resp
  | .i3Resp => .i3Resp
  | .i4aResp => .i4aResp
  | .i4bResp => .i4bResp
  | .i5Resp => .i5Resp
  | .i6Resp => .i6Resp
  | .iDone => .iDone
  | .iFast => .iFast
  | .rSel => .rSel
  | .rResp => .rResp
  | .rToken => .rToken
  | .rData => .rData
  | .rDesel => .rDesel
  | .wSel => .wSel
  | .wResp => .wResp
  | .wToken => .wToken
  | .wData => .wData
  | .wDresp => .wDresp
  | .wBusy => .wBusy
  | .wStResp => .wStResp
  | .wDesel => .wDesel
  | .fail r => .fail r

/-- The reader starts: `poll_cnt` is cleared and the sequencer stands where the response is read (spec R150, R39). -/
def beginReader (s : State) : State := { s with pollCnt := 0, seq := s.seq.afterSend }

/-- `Send(opcode, argument, crc7)`: `frame <- Encode(..)`, six exchanges with byte 0 first, the bytes received dropped
(spec R132), and then the reader of the response starts. -/
def send (opcode : BitVec 6) (argument : Word32) (crc7 : BitVec 7) (s : State) : State :=
  beginReader
    (sendBytes (encodeFrame opcode argument crc7).bytes
      (clearByteIdx { s with frame := encodeFrame opcode argument crc7 }))

/-! ### The end of an operation (spec R26, R27, R188, R189, R220, R221) -/

/-- The result code of a failure reason (spec R240). -/
def Reason.code : Reason → ResCode
  | .timeout => .timeout
  | .illegalCommand => .illegalCommand
  | .voltageMismatch => .voltageMismatch
  | .patternMismatch => .patternMismatch
  | .writeRejected _ => .writeRejected
  | .cardStatusError => .cardStatusError
  | .notInitialized => .notInitialized
  | .busError => .busError

/-- `busy <- 0; done <- 1; res_code <- code`, and the engine is idle (spec R188, R189, R220, R221). -/
def deliver (code : ResCode) (s : State) : State :=
  { s with busy := false, done := true, resCode := code, seq := .idle }

/-- `res_info <- code` for WriteRejected (spec R28, R220); no other reason writes it (log 11). -/
def recordInfo (r : Reason) (s : State) : State :=
  match r with
  | .writeRejected code => { s with resInfo := code }
  | .timeout => s
  | .illegalCommand => s
  | .voltageMismatch => s
  | .patternMismatch => s
  | .cardStatusError => s
  | .notInitialized => s
  | .busError => s

/-- `phase <- Failed; fail_reason <- reason`, the part of the exit that only INIT has (spec R189). -/
def failSession (r : Reason) (s : State) : State := { s with phase := .failed, failReason := r.code }

/-- The failure exit, the engine's way of taking an exception: of INIT by spec R189 and R246, of a block operation by
spec R220 and R247. Which of the two runs is told by `op` (log 19). There is no return from it (spec R249). -/
def failExit (r : Reason) (s : State) : State :=
  deliver r.code (busDeselect (if s.op = 1#2 then failSession r s else recordInfo r s))

end Sys2Proof.Machine
end

