-- ==== Sys2Proof/Machine/Operands.lean ====
section
/-!
DEFINITION. The values the engine computes from its registers: the fields of a response payload (spec R32, R97, R98)
and the block-address translator (spec R170 to R174).
-/

namespace Sys2Proof.Machine

/-- `payload32 = payload[0] ++ payload[1] ++ payload[2] ++ payload[3]` (spec R32, R64). -/
def payload32 (p : Payload) : Word32 := word32 p.p0 p.p1 p.p2 p.p3

/-- The check pattern of an R7 payload, bits 7:0 (spec R97). -/
def r7Pattern (p : Payload) : Byte := (payload32 p).extractLsb' 0 8

/-- The voltage nibble of an R7 payload, bits 11:8 (spec R97). -/
def r7Voltage (p : Payload) : BitVec 4 := (payload32 p).extractLsb' 8 4

/-- The voltage window of the OCR (spec R98). -/
def ocrWindow (p : Payload) : Word32 := payload32 p &&& Config.ocrVoltageMask

/-- The card-capacity-status bit of the OCR (spec R98). -/
def ocrCcs (p : Payload) : Bool := (payload32 p).getLsbD Config.ocrCcsBit

/-- `Translate(cap, i)`: by byte offset for Standard, the low 32 bits being kept, and by index for High (spec R170,
R172). Its domain has no Unknown (spec R173). -/
def translateIndex (c : Capacity) (i : Word32) : Word32 :=
  match c with
  | .standard => i <<< 9
  | .high => i

/-- The argument of command 41: bit 30 asks for high capacity (spec R140, R185). -/
def acmd41Argument (hcs : Bool) : Word32 := if hcs then Config.acmd41Hcs else 0#32

/-- Whether command 41 asks for high capacity: exactly for a V2 card (spec R140, R185). -/
def wantsHcs (v : VersionClass) : Bool :=
  match v with
  | .v2 => true
  | .legacy => false
  | .unknown => false

end Sys2Proof.Machine
end

