-- ==== Sys2Proof/Machine/Flags.lean ====
section
/-!
DEFINITION. The tests that steer the engine (spec R33). There is no condition-code register: each is a test of a byte
received or of `status`, `status2`, `dresp`.
-/

namespace Sys2Proof.Machine

/-- The idle-state bit, `status[0]` (spec R33 b, R93). -/
def idleBit (status : Byte) : Bool := status.getLsbD 0

/-- The illegal-command bit, `status[2]` (spec R33 c, R93). -/
def illegalBit (status : Byte) : Bool := status.getLsbD 2

/-- The whole-byte zero test (spec R33 d). -/
def isZero (b : Byte) : Bool := b == 0#8

/-- The write-acceptance predicate on the low five bits of the data response (spec R33 f, R217). -/
def accepted (code : BitVec 5) : Bool := code == 0b00101#5

/-- The echo test of step 2: pattern 0xAA and voltage nibble 0x1 (spec R183). -/
def echoMatches (p : Payload) : Bool := r7Pattern p == 0xAA#8 && r7Voltage p == 0x1#4

/-- The voltage test of step 3: the window is not all zero (spec R184). -/
def voltageInWindow (p : Payload) : Bool := ocrWindow p != 0#32

end Sys2Proof.Machine
end

