-- ==== Sys2Proof/Machine/Decisions.lean ====
section
/-!
DEFINITION. What each step of an operation makes of the reader's answer (spec R182 to R187, R211, R215, R219, and the
table R241): the transitions of spec R191 and of the block operations.
-/

namespace Sys2Proof.Machine

/-! ### Entering the steps of INIT (spec R190, R191) -/

/-- Step 6 is run only for a Standard card; otherwise step 7 follows (spec R187). -/
def enterBlockLenSet (s : State) : State :=
  match s.capPending with
  | .standard => goto .i6Send s
  | .high => goto .iDone s

/-- Step 5 asks a V2 card; any other is Standard without bus activity (spec R186). -/
def enterCapacityDetect (s : State) : State :=
  match s.cs.versionClass with
  | .v2 => goto .i5Send s
  | .legacy => enterBlockLenSet { s with capPending := .standard }
  | .unknown => enterBlockLenSet { s with capPending := .standard }

/-- Step 4 begins with `acmd_cnt <- 0` (spec R185). -/
def enterIdleWait (s : State) : State := goto .i4aSend { s with acmdCnt := 0 }

/-- Step 3 is performed only when `OCR_CHECK` (spec R184). -/
def enterOcrCheck (s : State) : State :=
  if s.params.ocrCheck then goto .i3Send s else enterIdleWait s

/-- The version class found in step 2 (spec R183). -/
def setVersion (v : VersionClass) (s : State) : State := { s with cs := { s.cs with versionClass := v } }

/-! ### What the steps make of a token -/

/-- A failed attempt of step 1: the next attempt, or Timeout after `RESET_RETRIES` (spec R182). -/
def retryReset (s : State) : State :=
  if s.retryCnt + 1 < Config.resetRetries then goto .i1Send { s with retryCnt := s.retryCnt + 1 }
  else raise .timeout { s with retryCnt := s.retryCnt + 1 }

/-- Step 1: success is the idle-state bit (spec R182). -/
def decideReset (s : State) : State :=
  if idleBit s.status then goto .i2Send { s with retryCnt := s.retryCnt + 1 } else retryReset s

/-- Step 2: illegal command is a Legacy card; otherwise the echo must match (spec R183). -/
def decideVoltageCheck (s : State) : State :=
  if illegalBit s.status then enterOcrCheck (setVersion .legacy s)
  else if echoMatches s.payload then enterOcrCheck (setVersion .v2 s)
  else raise .patternMismatch s

/-- Step 3 (spec R184; order of tests R245 b). -/
def decideOcrCheck (s : State) : State :=
  if illegalBit s.status then raise .illegalCommand s
  else if voltageInWindow s.payload then enterIdleWait s
  else raise .voltageMismatch s

/-- Step 4 after command 55: its status is ignored (spec R185, R139). -/
def decidePrefix (s : State) : State := goto .i4bSend s

/-- Step 4 after command 41: the loop is left when the idle-state bit is clear, and after `ACMD41_BUDGET` iterations
the result is Timeout (spec R185). -/
def decideAcmd41 (s : State) : State :=
  if idleBit s.status then
    if s.acmdCnt + 1 < s.params.acmd41Budget then goto .i4aSend { s with acmdCnt := s.acmdCnt + 1 }
    else raise .timeout { s with acmdCnt := s.acmdCnt + 1 }
  else enterCapacityDetect { s with acmdCnt := s.acmdCnt + 1 }

/-- Step 5 (spec R186; order of tests R245 b). -/
def decideCapacity (s : State) : State :=
  if illegalBit s.status then raise .illegalCommand s
  else enterBlockLenSet { s with capPending := if ocrCcs s.payload then .high else .standard }

/-- Step 6: the whole status byte must be zero (spec R187). -/
def decideBlockLen (s : State) : State := if isZero s.status then goto .iDone s else raise .busError s

/-- READ_BLOCK after command 17 (spec R211): the token wait begins with `tok_cnt <- 0` (spec R212). -/
def decideReadCommand (s : State) : State :=
  if isZero s.status then goto .rToken { s with tokCnt := 0 } else raise .busError s

/-- WRITE_BLOCK after command 24 (spec R215). -/
def decideWriteCommand (s : State) : State := if isZero s.status then goto .wToken s else raise .busError s

/-- WRITE_BLOCK after command 13: both status bytes must be zero, `status` tested first (spec R219). -/
def decideCardStatus (s : State) : State :=
  if isZero s.status then
    if isZero s.status2 then goto .wDesel s else raise .cardStatusError s
  else raise .cardStatusError s

/-- What the step that asked for a response makes of the token now in the token registers (spec R191, R211, R215,
R219). A point that asks for no response makes nothing of it (log 12). -/
def onToken (s : State) : State :=
  match s.seq with
  | .i1Resp => decideReset s
  | .i2Resp => decideVoltageCheck s
  | .i3Resp => decideOcrCheck s
  | .i4aResp => decidePrefix s
  | .i4bResp => decideAcmd41 s
  | .i5Resp => decideCapacity s
  | .i6Resp => decideBlockLen s
  | .rResp => decideReadCommand s
  | .wResp => decideWriteCommand s
  | .wStResp => decideCardStatus s
  | .idle => s
  | .iClk => s
  | .iSel => s
  | .i1Send => s
  | .i2Send => s
  | .i3Send => s
  | .i4aSend => s
  | .i4bSend => s
  | .i5Send => s
  | .i6Send => s
  | .iDone => s
  | .iFast => s
  | .rSel => s
  | .rSend => s
  | .rToken => s
  | .rData => s
  | .rDesel => s
  | .wSel => s
  | .wSend => s
  | .wToken => s
  | .wData => s
  | .wDresp => s
  | .wBusy => s
  | .wStSend => s
  | .wDesel => s
  | .fail _ => s

/-- What the step that asked for a response makes of the reader's Timeout (spec R241): another attempt in step 1,
BusError in step 4 and after commands 17 and 24, Timeout elsewhere. A point that asks for no response makes nothing
of it (log 12). -/
def onTimeout (s : State) : State :=
  match s.seq with
  | .i1Resp => retryReset s
  | .i2Resp => raise .timeout s
  | .i3Resp => raise .timeout s
  | .i4aResp => raise .busError s
  | .i4bResp => raise .busError s
  | .i5Resp => raise .timeout s
  | .i6Resp => raise .timeout s
  | .rResp => raise .busError s
  | .wResp => raise .busError s
  | .wStResp => raise .timeout s
  | .idle => s
  | .iClk => s
  | .iSel => s
  | .i1Send => s
  | .i2Send => s
  | .i3Send => s
  | .i4aSend => s
  | .i4bSend => s
  | .i5Send => s
  | .i6Send => s
  | .iDone => s
  | .iFast => s
  | .rSel => s
  | .rSend => s
  | .rToken => s
  | .rData => s
  | .rDesel => s
  | .wSel => s
  | .wSend => s
  | .wToken => s
  | .wData => s
  | .wDresp => s
  | .wBusy => s
  | .wStSend => s
  | .wDesel => s
  | .fail _ => s

/-- The reader's answer Timeout: no extension is valid (spec R156), and the calling step decides. -/
def readerTimeout (s : State) : State := onTimeout { s with extValid := false }

end Sys2Proof.Machine
end

