-- ==== Sys2Proof/Machine/Commands.lean ====
section
/-!
DEFINITION. The nine commands of spec R92 (rules R133 to R141). Each sends its frame as spec R132 says; what is made
of the response is the response's meaning (Machine/Responses.lean).
-/

namespace Sys2Proof.Machine

/-- CMD0 (spec R133): `Send(0, 0, CRC7_CMD0)`. -/
def execCmd0 (s : State) : Host.Outcome State Fault Refusal := .next (send 0#6 0#32 Config.crc7Cmd0 s)

/-- CMD8 (spec R134): `Send(8, CMD8_ARG, CRC7_CMD8)`. -/
def execCmd8 (s : State) : Host.Outcome State Fault Refusal := .next (send 8#6 Config.cmd8Arg Config.crc7Cmd8 s)

/-- CMD13 (spec R135): `Send(13, 0, CRC7_FILL)`. -/
def execCmd13 (s : State) : Host.Outcome State Fault Refusal := .next (send 13#6 0#32 Config.crc7Fill s)

/-- CMD16 (spec R136): `Send(16, CMD16_ARG, CRC7_FILL)`. -/
def execCmd16 (s : State) : Host.Outcome State Fault Refusal := .next (send 16#6 Config.cmd16Arg Config.crc7Fill s)

/-- CMD17 (spec R137): `Send(OP_READ_SINGLE, addr, CRC7_FILL)`. -/
def execCmd17 (addr : Word32) (s : State) : Host.Outcome State Fault Refusal :=
  .next (send Config.opReadSingle addr Config.crc7Fill s)

/-- CMD24 (spec R138): `Send(OP_WRITE_SINGLE, addr, CRC7_FILL)`. -/
def execCmd24 (addr : Word32) (s : State) : Host.Outcome State Fault Refusal :=
  .next (send Config.opWriteSingle addr Config.crc7Fill s)

/-- CMD55 (spec R139): `Send(55, 0, CRC7_FILL)`. -/
def execCmd55 (s : State) : Host.Outcome State Fault Refusal := .next (send 55#6 0#32 Config.crc7Fill s)

/-- ACMD41 (spec R140): `Send(41, arg, CRC7_FILL)` with argument bit 30 as the operand says and every other bit 0. -/
def execAcmd41 (hcs : Bool) (s : State) : Host.Outcome State Fault Refusal :=
  .next (send 41#6 (acmd41Argument hcs) Config.crc7Fill s)

/-- CMD58 (spec R141): `Send(58, 0, CRC7_FILL)`. -/
def execCmd58 (s : State) : Host.Outcome State Fault Refusal := .next (send 58#6 0#32 Config.crc7Fill s)

end Sys2Proof.Machine
end

