-- ==== Sys2Proof/Machine/Responses.lean ====
section
/-!
DEFINITION. The response reader (spec R150 to R161): the filler, and the five shapes. The operands are the bytes the
environment answered, which the sequencer has drawn; a meaning makes the exchanges, fills the token registers and hands
the token, or Timeout, to the calling step.
-/

namespace Sys2Proof.Machine

/-- One poll of `PollStatus` (spec R150): one exchange, `poll_cnt` counted. -/
def pollOnce (b : Byte) (s : State) : State := { xchgRecv b s with pollCnt := s.pollCnt + 1 }

/-- The poll that finds the status byte (spec R150: `status <- b`). -/
def pollStatus (st : BitVec 7) (s : State) : State := { pollOnce (statusByte st) s with status := statusByte st }

/-- `tok_shape` and `ext_valid` of a token (spec R151 to R155). -/
def setToken (shape : Shape) (ext : Bool) (s : State) : State := { s with tokShape := shape, extValid := ext }

/-- One poll of `BusyWait` (spec R152): one exchange, `busy_cnt` counted. -/
def busyPoll (b : Byte) (s : State) : State := { xchgRecv b s with busyCnt := s.busyCnt + 1 }

/-- The polls of `BusyWait` in order (spec R152). -/
def busyPolls : List Byte → State → State
  | [], s => s
  | b :: bs, s => busyPolls bs (busyPoll b s)

/-- `BusyWait` entered (spec R152: `busy_cnt <- 0`). -/
def beginBusyWait (s : State) : State := { s with busyCnt := 0 }

/-- The four payload bytes received, one exchange each (spec R154). -/
def recvPayload (p : Payload) (s : State) : State :=
  { recvBytes p.bytes (clearByteIdx s) with payload := p }

/-- `ReadResponse(R3)` from its status byte on, for R3 and, by delegation, for R7 (spec R154, R155, R160): with the
illegal-command bit set the payload is not read. -/
def readLong (shape : Shape) (st : BitVec 7) (p : Payload) (s : State) : State :=
  if illegalBit (statusByte st) then setToken shape false (pollStatus st s)
  else setToken shape true (recvPayload p (pollStatus st s))

/-- FILLER (spec R93, R150, R159): a poll that finds no status; the last one of the budget is the reader's Timeout
(spec R156; log 7). -/
def execFiller (x : BitVec 7) (s : State) : Host.Outcome State Fault Refusal :=
  if s.pollCnt + 1 < Config.respBudget then .next (pollOnce (fillerByte x) s)
  else .next (readerTimeout (pollOnce (fillerByte x) s))

/-- R1 (spec R151). -/
def execR1 (st : BitVec 7) (s : State) : Host.Outcome State Fault Refusal :=
  .next (onToken (setToken .r1 false (pollStatus st s)))

/-- R1b (spec R152): the status byte, then `BusyWait`, which ends with the first non-zero byte or, when `BUSY_BUDGET`
bytes were zero, in Timeout. -/
def execR1b (st : BitVec 7) (zeros : Nat) (last : Byte) (s : State) : Host.Outcome State Fault Refusal :=
  if zeros < s.params.busyBudget then
    .next (onToken (setToken .r1b false
      (busyPolls (List.replicate zeros 0#8 ++ [last]) (beginBusyWait (pollStatus st s)))))
  else
    .next (readerTimeout
      (busyPolls (List.replicate s.params.busyBudget 0#8) (beginBusyWait (pollStatus st s))))

/-- R2 (spec R153): with the illegal-command bit set the second status byte is not read. -/
def execR2 (st : BitVec 7) (t : Byte) (s : State) : Host.Outcome State Fault Refusal :=
  if illegalBit (statusByte st) then .next (onToken (setToken .r2 false (pollStatus st s)))
  else .next (onToken (setToken .r2 true { xchgRecv t (pollStatus st s) with status2 := t }))

/-- R3 (spec R154). -/
def execR3 (st : BitVec 7) (p : Payload) (s : State) : Host.Outcome State Fault Refusal :=
  .next (onToken (readLong .r3 st p s))

/-- R7 (spec R155): as R3, with `tok_shape <- R7`. -/
def execR7 (st : BitVec 7) (p : Payload) (s : State) : Host.Outcome State Fault Refusal :=
  .next (onToken (readLong .r7 st p s))

end Sys2Proof.Machine
end

