-- ==== Sys2Proof/Machine/Data.lean ====
section
/-!
DEFINITION. The data path of the block operations (spec R99 to R101, R212 to R217).
-/

namespace Sys2Proof.Machine

/-- START_TOKEN. At R_TOKEN it is received and ends the token wait (spec R212); elsewhere, that is at W_TOKEN, the
engine sends it, directly before the data block (spec R216). -/
def execStartToken (s : State) : Host.Outcome State Fault Refusal :=
  if s.seq = .rToken then
    .next (goto .rData { xchgRecv Config.startToken s with tokCnt := s.tokCnt + 1 })
  else .next (goto .wData (xchgSend Config.startToken s))

/-- READ_DATA: 512 exchanges, the j-th byte into `buf[j]`, then two exchanges whose bytes are dropped (spec R213,
R214). -/
def execReadData (payload : List Byte) (crc0 crc1 : Byte) (s : State) : Host.Outcome State Fault Refusal :=
  .next (goto .rDesel
    (recvBytes [crc0, crc1] (clearByteIdx
      (recvBytes payload (clearByteIdx { s with buf := Memory.writeBytes s.buf 0 payload })))))

/-- WRITE_DATA: 512 exchanges sending the payload in order, then the two dummy CRC bytes; what is received is dropped
(spec R216). -/
def execWriteData (payload : List Byte) (s : State) : Host.Outcome State Fault Refusal :=
  .next (goto .wDresp
    (sendBytes [Config.dummyCrc0, Config.dummyCrc1] (clearByteIdx (sendBytes payload (clearByteIdx s)))))

/-- DATA_RESP: the byte is kept in `dresp`; accepted, the busy-wait follows with `busy_cnt <- 0`; otherwise the
operation fails with WriteRejected(code) (spec R217, R218). -/
def execDataResp (ignored : BitVec 3) (code : BitVec 5) (s : State) : Host.Outcome State Fault Refusal :=
  if accepted code then
    .next (goto .wBusy (beginBusyWait
      { xchgRecv (dataRespByte ignored code) s with dresp := dataRespByte ignored code }))
  else
    .next (raise (.writeRejected code)
      { xchgRecv (dataRespByte ignored code) s with dresp := dataRespByte ignored code })

end Sys2Proof.Machine
end

