-- ==== Sys2Proof/Machine/HostOps.lean ====
section
/-!
DEFINITION. The host operations (spec R104): the step that accepts each. The operation then runs through the points of
the sequencer (Machine/Sequencer.lean). A request while `busy` = 1 is not accepted and changes nothing (spec R104).
-/

namespace Sys2Proof.Machine

/-- `busy <- 1; done <- 0; op <- code` (spec R26, R181, R211, R215). -/
def accept (code : BitVec 2) (s : State) : State := { s with busy := true, done := false, op := code }

/-- A fresh CardState and the phase Uninit (spec R181). -/
def freshSession (s : State) : State :=
  { s with
    cs := { versionClass := .unknown, capacityClass := .unknown, writeProtected := false }
    phase := .uninit }

/-- The guard's failure: NotInitialized, with no bus primitive, `busy` staying 0 (spec R210). -/
def rejectUninit (s : State) : State := { s with done := true, resCode := .notInitialized }

/-- The accepting step of a block operation: the guard of spec R210, then `op` and `index` latched (spec R29, R211,
R215). -/
def acceptBlock (code : BitVec 2) (first : Seq) (index : Word32) (s : State) : State :=
  if s.busy then s
  else if s.phase = .ready then goto first { accept code s with index := index }
  else rejectUninit s

/-- NOP: no operation is started, no register changes (spec R104). -/
def execNop (s : State) : Host.Outcome State Fault Refusal := .next s

/-- INIT: accepted in every phase; the entry of spec R181 (spec R180). -/
def execInit (s : State) : Host.Outcome State Fault Refusal :=
  if s.busy then .next s else .next (goto .iClk (freshSession (accept 1#2 s)))

/-- READ_BLOCK: the accepting step (spec R210, R211). -/
def execReadBlock (index : Word32) (s : State) : Host.Outcome State Fault Refusal :=
  .next (acceptBlock 2#2 .rSel index s)

/-- WRITE_BLOCK: the accepting step (spec R210, R215). -/
def execWriteBlock (index : Word32) (s : State) : Host.Outcome State Fault Refusal :=
  .next (acceptBlock 3#2 .wSel index s)

end Sys2Proof.Machine
end

