-- ==== Sys2Proof/Machine/Dispatch.lean ====
section
/-!
DEFINITION. One arm per constructor of `Instr`, each a direct call of its meaning.
-/

namespace Sys2Proof.Machine

def exec (i : Instr) (s : State) : Host.Outcome State Fault Refusal :=
  match i with
  | .cmd0 => Sys2Proof.Machine.execCmd0 s
  | .cmd8 => Sys2Proof.Machine.execCmd8 s
  | .cmd13 => Sys2Proof.Machine.execCmd13 s
  | .cmd16 => Sys2Proof.Machine.execCmd16 s
  | .cmd17 addr => Sys2Proof.Machine.execCmd17 addr s
  | .cmd24 addr => Sys2Proof.Machine.execCmd24 addr s
  | .cmd55 => Sys2Proof.Machine.execCmd55 s
  | .acmd41 hcs => Sys2Proof.Machine.execAcmd41 hcs s
  | .cmd58 => Sys2Proof.Machine.execCmd58 s
  | .filler x => Sys2Proof.Machine.execFiller x s
  | .r1 st => Sys2Proof.Machine.execR1 st s
  | .r1b st zeros last => Sys2Proof.Machine.execR1b st zeros last s
  | .r2 st t => Sys2Proof.Machine.execR2 st t s
  | .r3 st p => Sys2Proof.Machine.execR3 st p s
  | .r7 st p => Sys2Proof.Machine.execR7 st p s
  | .startToken => Sys2Proof.Machine.execStartToken s
  | .readData payload crc0 crc1 => Sys2Proof.Machine.execReadData payload crc0 crc1 s
  | .writeData payload => Sys2Proof.Machine.execWriteData payload s
  | .dataResp ignored code => Sys2Proof.Machine.execDataResp ignored code s
  | .nop => Sys2Proof.Machine.execNop s
  | .init => Sys2Proof.Machine.execInit s
  | .readBlock index => Sys2Proof.Machine.execReadBlock index s
  | .writeBlock index => Sys2Proof.Machine.execWriteBlock index s

end Sys2Proof.Machine
end

