-- ==== Sys2Proof/Machine/Sequencer.lean ====
section
/-!
DEFINITION. The sequencer (spec R38, R39): which instruction, or which action of its own, the engine performs at a
program point, and those actions. A frame to send is formed from the registers; bytes to receive are drawn from the
environment and decoded on the point's channel.
-/

namespace Sys2Proof.Machine

/-- The sequencer's own actions: the points of spec R39 that are no row of the opcode table. -/
inductive Control where
  /-- IDLE with nothing for the host to do (spec R38, R257). -/
  | wait
  /-- IDLE, the host writing one buffer cell (spec R36, R61). -/
  | hostWrite (a : BitVec 9) (b : Byte)
  /-- I_CLK (spec R181). -/
  | clkInit
  /-- I_SEL (spec R181). -/
  | selectInit
  /-- I_DONE (spec R188). -/
  | commit
  /-- I_FAST (spec R188). -/
  | clkFast
  /-- R_SEL, W_SEL: select, then translate; the command is sent at the point named (spec R211, R215, R174). -/
  | openBlock (next : Seq)
  /-- R_TOKEN, a byte other than 0xFE received (spec R212). -/
  | skipByte (b : Byte)
  /-- W_BUSY, one poll of the busy-wait (spec R218). -/
  | busy (b : Byte)
  /-- R_DESEL, W_DESEL (spec R221). -/
  | close
  /-- FAIL (spec R189, R220). -/
  | failed (r : Reason)
deriving DecidableEq, Repr

/-- What the engine does next, with the state after the bytes it needs were drawn. -/
inductive Selected where
  | instr (i : Instr) (s : State)
  | control (c : Control) (s : State)
  | undecoded
deriving DecidableEq, Repr

/-- The instruction a decoder found, run on the state after its bytes were drawn. -/
def selectDecoded (r : Except DecodeError (Instr × List Byte)) (s : State) : Selected :=
  match r with
  | .ok (i, _) => .instr i s
  | .error _ => .undecoded

/-- A point at which a response of a shape is read: one byte is drawn, and if it is the status byte also the bytes of
the extension (spec R103). -/
def selectResponse (shape : Shape) (s : State) : Selected :=
  if (draw s).1.getLsbD 7 then selectDecoded (decode (.response shape) [(draw s).1]) (draw s).2
  else
    selectDecoded
      (decode (.response shape) ((draw s).1 :: (drawN (extensionLength shape (draw s).1) (draw s).2).1))
      (drawN (extensionLength shape (draw s).1) (draw s).2).2

/-- R_TOKEN: the start token, or a byte to skip (spec R212). -/
def selectToken (s : State) : Selected :=
  match decode .token [(draw s).1] with
  | .ok (i, _) => .instr i (draw s).2
  | .error _ => .control (.skipByte (draw s).1) (draw s).2

/-- R_DATA: the bytes after the start token that R_TOKEN has just taken (spec R99, R213, R214). -/
def selectReadData (s : State) : Selected :=
  selectDecoded (decode .dataIn (Config.startToken :: (drawN (Config.blockSize + 2) s).1))
    (drawN (Config.blockSize + 2) s).2

/-- W_DRESP: the next byte, whatever it is (spec R217). -/
def selectDataResp (s : State) : Selected := selectDecoded (decode .dataResp [(draw s).1]) (draw s).2

/-- IDLE: the host's next move (spec R38, R41, R104). -/
def selectIdle (s : State) : Selected :=
  match s.hostQ with
  | [] => .control .wait s
  | .request op index :: rest => .instr (decodeRequest op index) { s with hostQ := rest }
  | .bufWrite a b :: rest => .control (.hostWrite a b) { s with hostQ := rest }

/-- The table of spec R39, its column of bus primitives: what is done at each program point. -/
def select (s : State) : Selected :=
  match s.seq with
  | .idle => selectIdle s
  | .iClk => .control .clkInit s
  | .iSel => .control .selectInit s
  | .i1Send => .instr .cmd0 s
  | .i1Resp => selectResponse .r1 s
  | .i2Send => .instr .cmd8 s
  | .i2Resp => selectResponse .r7 s
  | .i3Send => .instr .cmd58 s
  | .i3Resp => selectResponse .r3 s
  | .i4aSend => .instr .cmd55 s
  | .i4aResp => selectResponse .r1 s
  | .i4bSend => .instr (.acmd41 (wantsHcs s.cs.versionClass)) s
  | .i4bResp => selectResponse .r1 s
  | .i5Send => .instr .cmd58 s
  | .i5Resp => selectResponse .r3 s
  | .i6Send => .instr .cmd16 s
  | .i6Resp => selectResponse .r1 s
  | .iDone => .control .commit s
  | .iFast => .control .clkFast s
  | .rSel => .control (.openBlock .rSend) s
  | .rSend => .instr (.cmd17 s.addr) s
  | .rResp => selectResponse .r1 s
  | .rToken => selectToken s
  | .rData => selectReadData s
  | .rDesel => .control .close s
  | .wSel => .control (.openBlock .wSend) s
  | .wSend => .instr (.cmd24 s.addr) s
  | .wResp => selectResponse .r1 s
  | .wToken => .instr .startToken s
  | .wData => .instr (.writeData (bufBytes s.buf)) s
  | .wDresp => selectDataResp s
  | .wBusy => .control (.busy (draw s).1) (draw s).2
  | .wStSend => .instr .cmd13 s
  | .wStResp => selectResponse .r2 s
  | .wDesel => .control .close s
  | .fail r => .control (.failed r) s

/-- `cs.capacityClass <- cap_pending; phase <- Ready` (spec R188). -/
def commitSession (s : State) : State :=
  { s with cs := { s.cs with capacityClass := .known s.capPending }, phase := .ready }

/-- R_TOKEN, a byte other than 0xFE: skipped, and after `TOKEN_BUDGET` polls the operation fails with Timeout (spec
R212; log 7). -/
def skipTokenByte (b : Byte) (s : State) : State :=
  if s.tokCnt + 1 < s.params.tokenBudget then { xchgRecv b s with tokCnt := s.tokCnt + 1 }
  else raise .timeout { xchgRecv b s with tokCnt := s.tokCnt + 1 }

/-- W_BUSY, one poll of `BusyWait`: a non-zero byte ends it, and after `BUSY_BUDGET` zero bytes the operation fails
with Timeout (spec R152, R218; log 7). -/
def busyWaitByte (b : Byte) (s : State) : State :=
  if isZero b then
    if s.busyCnt + 1 < s.params.busyBudget then busyPoll b s else raise .timeout (busyPoll b s)
  else goto .wStSend (busyPoll b s)

/-- The sequencer's own actions. The only one that can stop is the translation of an Unknown class (spec R173). -/
def perform (c : Control) (s : State) : Host.Outcome State Fault Refusal :=
  match c with
  | .wait => .next s
  | .hostWrite a b => .next (if s.busy then s else { s with buf := Memory.write s.buf a.toNat b })
  | .clkInit => .next (goto .iSel (busSetClk s.params.clkDivInit s))
  | .selectInit => .next (goto .i1Send (busSelect { s with retryCnt := 0 }))
  | .commit => .next (goto .iFast (busDeselect (commitSession s)))
  | .clkFast => .next (deliver .ok (busSetClk s.params.clkDivFast s))
  | .openBlock next =>
    match s.cs.capacityClass with
    | .unknown => .fault .translateUnknown
    | .known c => .next (goto next { busSelect s with addr := translateIndex c s.index })
  | .skipByte b => .next (skipTokenByte b s)
  | .busy b => .next (busyWaitByte b s)
  | .close => .next (deliver .ok (busDeselect s))
  | .failed r => .next (failExit r s)

/-! ### Placing a word where the next step takes its instruction (log 8) -/

/-- The state with an instruction's word where the next step reads it: a request at the head of the host's moves, a
command at the point that sends it, received bytes at the head of the environment's script, a block to write in the
buffer. -/
def place (i : Instr) (bytes : List Byte) (s : State) : State :=
  match i with
  | .cmd0 => goto .i1Send s
  | .cmd8 => goto .i2Send s
  | .cmd13 => goto .wStSend s
  | .cmd16 => goto .i6Send s
  | .cmd17 addr => goto .rSend { s with addr := addr }
  | .cmd24 addr => goto .wSend { s with addr := addr }
  | .cmd55 => goto .i4aSend s
  | .acmd41 hcs => goto .i4bSend (setVersionFor hcs s)
  | .cmd58 => goto .i5Send s
  | .filler _ => goto .i6Resp { s with env := bytes ++ s.env }
  | .r1 _ => goto .i6Resp { s with env := bytes ++ s.env }
  | .r1b _ _ _ => s
  | .r2 _ _ => goto .wStResp { s with env := bytes ++ s.env }
  | .r3 _ _ => goto .i5Resp { s with env := bytes ++ s.env }
  | .r7 _ _ => goto .i2Resp { s with env := bytes ++ s.env }
  | .startToken => goto .rToken { s with env := bytes ++ s.env }
  | .readData _ _ _ => goto .rData { s with env := bytes.tail ++ s.env }
  | .writeData payload => goto .wData { s with buf := Memory.writeBytes s.buf 0 payload }
  | .dataResp _ _ => goto .wDresp { s with env := bytes ++ s.env }
  | .nop => goto .idle { s with busy := false, hostQ := .request 0#2 0#32 :: s.hostQ }
  | .init => goto .idle { s with busy := false, hostQ := .request 1#2 0#32 :: s.hostQ }
  | .readBlock index => goto .idle { s with busy := false, hostQ := .request 2#2 index :: s.hostQ }
  | .writeBlock index => goto .idle { s with busy := false, hostQ := .request 3#2 index :: s.hostQ }
where
  /-- The version class for which command 41 is sent with this argument bit (spec R140). -/
  setVersionFor (hcs : Bool) (s : State) : State :=
    { s with cs := { s.cs with versionClass := if hcs then .v2 else .legacy } }

/-- The state with a table word placed; a word the decoder refuses changes nothing. -/
def placeWord (nbits w : Nat) (s : State) : State :=
  match decodeTableWord nbits w with
  | some i => place i (tableBytes ((nbits + 7) / 8) w) s
  | none => s

end Sys2Proof.Machine
end

