-- ==== Sys2Proof/Machine/Step.lean ====
section
/-!
DEFINITION. One step: what the sequencer selects is done.
-/

namespace Sys2Proof.Machine

/-- One step of the engine (spec R20, R38). -/
def step (s : State) : Host.Outcome State Fault Refusal :=
  match select s with
  | .instr i t => exec i t
  | .control c t => perform c t
  | .undecoded => .refused .undecoded

/-- `s` with the instruction of a table word where the next step takes it (log 8). -/
def State.withFetchWord (s : State) (nbits w : Nat) : State := placeWord nbits w s

end Sys2Proof.Machine
end

