-- ==== Sys2Proof/Machine/HostAccess.lean ====
section
/-!
DEFINITION. What the host may read, and when (spec R41), with the numeric codes of spec R21, R22, R24, R240. A read is
no step of the engine: it changes nothing.
-/

namespace Sys2Proof.Machine

/-- Code of `cs.versionClass` (spec R21). -/
def VersionClass.bits : VersionClass → BitVec 2
  | .unknown => 0#2
  | .legacy => 1#2
  | .v2 => 2#2

/-- Code of `cs.capacityClass` (spec R22). -/
def CapacityClass.bits : CapacityClass → BitVec 2
  | .unknown => 0#2
  | .known .standard => 1#2
  | .known .high => 2#2

/-- Code of `phase` (spec R24). -/
def Phase.bits : Phase → BitVec 2
  | .uninit => 0#2
  | .ready => 1#2
  | .failed => 2#2

/-- Code of an outcome (spec R240). -/
def ResCode.bits : ResCode → BitVec 4
  | .ok => 0#4
  | .timeout => 1#4
  | .illegalCommand => 2#4
  | .voltageMismatch => 3#4
  | .patternMismatch => 4#4
  | .writeRejected => 5#4
  | .cardStatusError => 6#4
  | .notInitialized => 7#4
  | .busError => 8#4

/-- The registers the host may read (spec R41). -/
inductive HostReg where
  | versionClass
  | capacityClass
  | writeProtected
  | phase
  | failReason
  | busy
  | done
  | resCode
  | resInfo
  | buf (a : BitVec 9)
deriving DecidableEq, Repr

/-- A value the contract lets the host see only under a condition (spec R41). -/
def readableWhen (c : Bool) (v : Nat) : Option Nat := if c then some v else none

/-- What a host read returns: a value where spec R41 lets the host read and the register holds one; nothing outside the
contract, outside a register's validity (spec R25, R27, R28), or from a buffer cell never written (spec R36). -/
def hostRead (r : HostReg) (s : State) : Option Nat :=
  match r with
  | .versionClass => readableWhen (!s.busy) s.cs.versionClass.bits.toNat
  | .capacityClass => readableWhen (!s.busy) s.cs.capacityClass.bits.toNat
  | .writeProtected => readableWhen (!s.busy) s.cs.writeProtected.toNat
  | .phase => readableWhen (!s.busy) s.phase.bits.toNat
  | .failReason => readableWhen (!s.busy && s.phase == .failed) s.failReason.bits.toNat
  | .busy => some s.busy.toNat
  | .done => some s.done.toNat
  | .resCode => readableWhen s.done s.resCode.bits.toNat
  | .resInfo => readableWhen (s.done && s.resCode == .writeRejected) s.resInfo.toNat
  | .buf a => if s.busy then none else (Memory.read s.buf a.toNat).map BitVec.toNat

end Sys2Proof.Machine
end

