-- ==== Sys2Proof/Safety.lean ====
section
/-!
DEFINITION. The terms in which claims about the machine are made: what the environment answers, which bus traces keep
the discipline of spec R254, which states are consistent (spec R40), and runs of several steps.
-/

namespace Sys2Proof.Machine

/-! ### The environment's answers -/

/-- The bytes the environment answers to the next `n` exchanges: the script, then free bytes (log 2). -/
def envBytes (n : Nat) (s : State) : List Byte :=
  (s.env ++ (List.range n).map (fun k => Config.envByte (s.envDrawn + k))).take n

/-- The state after `n` answers were taken; nothing but the environment's own fields changes. -/
def afterDraws (n : Nat) (s : State) : State :=
  { s with env := s.env.drop n, envDrawn := s.envDrawn + (n - s.env.length) }

/-- The exchanges that send these bytes and receive those, in order (spec R44). -/
def exchanges (outs ins : List Byte) : List BusEvent := List.zipWith BusEvent.x outs ins

/-- The exchanges that receive these bytes, each sending `FILL_BYTE` = 0xFF (spec R106 `RX`, D5). -/
def receives (ins : List Byte) : List BusEvent := ins.map (BusEvent.x 0xFF#8)

/-- What the environment answers to one command and the reading of its response: a byte to each of the frame's six,
fillers, and the response's own bytes (spec R106, R132, R150). -/
structure Answer where
  dropped : List Byte
  fillers : List Byte
  response : List Byte
deriving DecidableEq, Repr

/-- The bytes of an answer in the order they are received. -/
def Answer.bytes (a : Answer) : List Byte := a.dropped ++ a.fillers ++ a.response

/-- The answer keeps to the reader's budget: fewer than 10000 bytes with bit 7 set before the response (spec R150). -/
def Answer.Timely (a : Answer) : Prop :=
  a.dropped.length = 6 ∧ (∀ b ∈ a.fillers, b.getLsbD 7 = true) ∧ a.fillers.length < 10000

/-- The bus events of a command and the reading of its response: the frame sent, then one receiving exchange per byte
(spec R132, R150). -/
def Answer.trace (a : Answer) (command : Instr) : List BusEvent :=
  exchanges (encode command) a.dropped ++ receives (a.fillers ++ a.response)

/-! ### The bus discipline (spec R40 g, R254, D4) -/

/-- Reading a bus trace with chip-select at a level: `Sel` and `Desel` alternate strictly, every exchange lies between
a `Sel` and the next `Desel`, and the divider changes only while the card is deselected. The answer is the level at the
end, or nothing where the trace breaks the discipline. -/
def chipSelect : Bool → List BusEvent → Option Bool
  | level, [] => some level
  | false, .sel :: rest => chipSelect true rest
  | false, .clk _ :: rest => chipSelect false rest
  | false, .desel :: _ => none
  | false, .x _ _ :: _ => none
  | true, .desel :: rest => chipSelect false rest
  | true, .x _ _ :: rest => chipSelect true rest
  | true, .sel :: _ => none
  | true, .clk _ :: _ => none

/-- The chip-select level at a program point (spec R39, R254). -/
def Seq.selectedAt : Seq → Bool
  | .idle => false
  | .iClk => false
  | .iSel => false
  | .i1Send => true
  | .i1Resp => true
  | .i2Send => true
  | .i2Resp => true
  | .i3Send => true
  | .i3Resp => true
  | .i4aSend => true
  | .i4aResp => true
  | .i4bSend => true
  | .i4bResp => true
  | .i5Send => true
  | .i5Resp => true
  | .i6Send => true
  | .i6Resp => true
  | .iDone => true
  | .iFast => false
  | .rSel => false
  | .rSend => true
  | .rResp => true
  | .rToken => true
  | .rData => true
  | .rDesel => true
  | .wSel => false
  | .wSend => true
  | .wResp => true
  | .wToken => true
  | .wData => true
  | .wDresp => true
  | .wBusy => true
  | .wStSend => true
  | .wStResp => true
  | .wDesel => true
  | .fail _ => true

/-! ### Consistent states (spec R40) -/

/-- INIT is running and has not succeeded yet. -/
abbrev duringInit (s : State) : Prop := s.op = 1#2 ∧ s.phase = .uninit

/-- INIT is running and step 2 has found the version class. -/
abbrev versionFound (s : State) : Prop := duringInit s ∧ s.cs.versionClass ≠ .unknown

/-- What holds of the registers at a program point while an operation runs. -/
def pointOk (s : State) : Prop :=
  match s.seq with
  | .idle => True
  | .iClk => duringInit s
  | .iSel => duringInit s
  | .i1Send => duringInit s
  | .i1Resp => duringInit s
  | .i2Send => duringInit s
  | .i2Resp => duringInit s
  | .i3Send => versionFound s
  | .i3Resp => versionFound s
  | .i4aSend => versionFound s
  | .i4aResp => versionFound s
  | .i4bSend => versionFound s
  | .i4bResp => versionFound s
  | .i5Send => duringInit s ∧ s.cs.versionClass = .v2
  | .i5Resp => duringInit s ∧ s.cs.versionClass = .v2
  | .i6Send => versionFound s ∧ s.capPending = .standard
  | .i6Resp => versionFound s ∧ s.capPending = .standard
  | .iDone => versionFound s ∧ (s.cs.versionClass = .legacy → s.capPending = .standard)
  | .iFast => s.op = 1#2 ∧ s.phase = .ready
  | .rSel => s.op = 2#2 ∧ s.phase = .ready
  | .rSend => s.op = 2#2 ∧ s.phase = .ready
  | .rResp => s.op = 2#2 ∧ s.phase = .ready
  | .rToken => s.op = 2#2 ∧ s.phase = .ready
  | .rData => s.op = 2#2 ∧ s.phase = .ready
  | .rDesel => s.op = 2#2 ∧ s.phase = .ready
  | .wSel => s.op = 3#2 ∧ s.phase = .ready
  | .wSend => s.op = 3#2 ∧ s.phase = .ready
  | .wResp => s.op = 3#2 ∧ s.phase = .ready
  | .wToken => s.op = 3#2 ∧ s.phase = .ready
  | .wData => s.op = 3#2 ∧ s.phase = .ready
  | .wDresp => s.op = 3#2 ∧ s.phase = .ready
  | .wBusy => s.op = 3#2 ∧ s.phase = .ready
  | .wStSend => s.op = 3#2 ∧ s.phase = .ready
  | .wStResp => s.op = 3#2 ∧ s.phase = .ready
  | .wDesel => s.op = 3#2 ∧ s.phase = .ready
  | .fail _ => duringInit s ∨ ((s.op = 2#2 ∨ s.op = 3#2) ∧ s.phase = .ready)

/-- The invariant of the machine: spec R40 (a), (d), (e), (f), (g), the constant of R23, the canonical form of the
buffer, and what each program point implies. -/
structure State.Inv (s : State) : Prop where
  /-- R40 (a): the capacity class is known exactly while `phase` is Ready. -/
  capacity : s.cs.capacityClass ≠ .unknown ↔ s.phase = .ready
  /-- R40 (d): the version class is known while `phase` is Ready. -/
  version : s.phase = .ready → s.cs.versionClass ≠ .unknown
  /-- R40 (e): no high-capacity legacy cards. -/
  legacy : s.phase = .ready → s.cs.versionClass = .legacy → s.cs.capacityClass = .known .standard
  /-- R23: `cs.writeProtected` reads false at all times. -/
  unprotected : s.cs.writeProtected = false
  /-- R40 (f): `busy` and `done` are never both 1. -/
  handshake : ¬ (s.busy = true ∧ s.done = true)
  /-- R26, R38, R40 (g): the engine is at IDLE exactly while `busy` = 0. -/
  idle : s.busy = false ↔ s.seq = .idle
  /-- R40 (g), R254: the trace keeps the bus discipline, and chip-select is at the level of the program point. -/
  bus : chipSelect false s.trace = some s.seq.selectedAt
  /-- R60: the buffer is in its canonical form. -/
  memory : Memory.wf s.buf = true
  /-- What the program point implies. -/
  point : pointOk s

/-! ### The reader at a program point (spec R39, R241) -/

/-- The response shape read at a program point, where one is (spec R39, R92). -/
def Seq.readerShape : Seq → Option Shape
  | .i1Resp => some .r1
  | .i2Resp => some .r7
  | .i3Resp => some .r3
  | .i4aResp => some .r1
  | .i4bResp => some .r1
  | .i5Resp => some .r3
  | .i6Resp => some .r1
  | .rResp => some .r1
  | .wResp => some .r1
  | .wStResp => some .r2
  | .idle => none
  | .iClk => none
  | .iSel => none
  | .i1Send => none
  | .i2Send => none
  | .i3Send => none
  | .i4aSend => none
  | .i4bSend => none
  | .i5Send => none
  | .i6Send => none
  | .iDone => none
  | .iFast => none
  | .rSel => none
  | .rSend => none
  | .rToken => none
  | .rData => none
  | .rDesel => none
  | .wSel => none
  | .wSend => none
  | .wToken => none
  | .wData => none
  | .wDresp => none
  | .wBusy => none
  | .wStSend => none
  | .wDesel => none
  | .fail _ => none

/-- The table R241, its reader rows: the failure a reader Timeout becomes at a response point other than that of step
1, which counts an attempt instead. -/
def Seq.timeoutReason : Seq → Option Reason
  | .i2Resp => some .timeout
  | .i3Resp => some .timeout
  | .i4aResp => some .busError
  | .i4bResp => some .busError
  | .i5Resp => some .timeout
  | .i6Resp => some .timeout
  | .rResp => some .busError
  | .wResp => some .busError
  | .wStResp => some .timeout
  | .i1Resp => none
  | .idle => none
  | .iClk => none
  | .iSel => none
  | .i1Send => none
  | .i2Send => none
  | .i3Send => none
  | .i4aSend => none
  | .i4bSend => none
  | .i5Send => none
  | .i6Send => none
  | .iDone => none
  | .iFast => none
  | .rSel => none
  | .rSend => none
  | .rToken => none
  | .rData => none
  | .rDesel => none
  | .wSel => none
  | .wSend => none
  | .wToken => none
  | .wData => none
  | .wDresp => none
  | .wBusy => none
  | .wStSend => none
  | .wDesel => none
  | .fail _ => none

/-- The state once the status byte of a response without extension was received: one exchange, one poll counted, and
the token registers (spec R150, R151). -/
def withStatus (sh : Shape) (st : BitVec 7) (s : State) : State :=
  { s with
    trace := s.trace ++ [.x 0xFF#8 (statusByte st)]
    pollCnt := s.pollCnt + 1
    status := statusByte st
    tokShape := sh
    extValid := false }

/-- The state once a response with its four payload bytes was received: five exchanges and the token registers (spec
R154, R155). -/
def withPayload (sh : Shape) (st : BitVec 7) (p : Payload) (s : State) : State :=
  { s with
    trace := s.trace ++ receives (statusByte st :: p.bytes)
    pollCnt := s.pollCnt + 1
    status := statusByte st
    payload := p
    byteIdx := 4
    tokShape := sh
    extValid := true }

/-- The state once both bytes of R2 were received (spec R153). -/
def withStatus2 (st : BitVec 7) (t : Byte) (s : State) : State :=
  { s with
    trace := s.trace ++ receives [statusByte st, t]
    pollCnt := s.pollCnt + 1
    status := statusByte st
    status2 := t
    tokShape := .r2
    extValid := true }

/-- The state once a six-byte frame was sent: six exchanges, byte 0 first, and the reader of the response about to
start (spec R132, R150). -/
def withFrame (f : Frame) (s : State) : State :=
  { afterDraws 6 s with
    frame := f
    trace := s.trace ++ exchanges f.bytes (envBytes 6 s)
    byteIdx := 6
    pollCnt := 0
    seq := s.seq.afterSend }

/-- Where step 2 of INIT goes on: step 3 when `OCR_CHECK`, else step 4 with `acmd_cnt` = 0 (spec R184, R185, R191). -/
def afterVersion (s : State) : State :=
  if s.params.ocrCheck = true then { s with seq := .i3Send } else { s with seq := .i4aSend, acmdCnt := 0 }

/-- The counters stay below their budgets wherever they are compared with them (spec R34, R172). -/
structure State.CountersBelow (s : State) : Prop where
  poll : s.seq.readerShape ≠ none → s.pollCnt < Config.respBudget
  retry : s.seq = .i1Send ∨ s.seq = .i1Resp → s.retryCnt < Config.resetRetries
  acmd : s.seq = .i4aSend ∨ s.seq = .i4aResp ∨ s.seq = .i4bSend ∨ s.seq = .i4bResp →
    s.acmdCnt < s.params.acmd41Budget
  busy : s.seq = .wBusy → s.busyCnt < s.params.busyBudget
  token : s.seq = .rToken → s.tokCnt < s.params.tokenBudget
  admissible : s.params.Admissible

/-! ### Runs -/

/-- `n` steps lead from `s` to `t` without a stop. -/
def Leads (n : Nat) (s t : State) : Prop := Host.Core.run core n s = .next t

/-- `s` leads to `t` in some number of steps. -/
def Reaches (s t : State) : Prop := ∃ n, Leads n s t

end Sys2Proof.Machine
end

