-- ==== Sys2Proof/Certificates/Slice0/Obligations.lean ====
section
/-!
DEFINITION. The statements for the provers. `envBytes n s` are the next `n` bytes the environment answers and
`afterDraws n s` is `s` once they were taken (Safety.lean); a statement about them holds for every environment, scripted
or free. A statement that gives the next state as a record update states its frame too: every field not named is
unchanged.
-/

open Sys2Proof Sys2Proof.Machine

/-! ## Encodings -/

/-- R130: the six bytes of `Encode`, in both forms the rule gives for bytes 0 and 5, with the rule's corner cases and
its two examples from the source. -/
def Obligations.EncodeLaysOutTheFrame : Prop :=
  (∀ (opcode : BitVec 6) (argument : Word32) (crc7 : BitVec 7),
    (encodeFrame opcode argument crc7).f0 = 0b01#2 ++ opcode ∧
    (encodeFrame opcode argument crc7).f0 = 0x40#8 ||| opcode.zeroExtend 8 ∧
    (encodeFrame opcode argument crc7).f1 = argument.extractLsb 31 24 ∧
    (encodeFrame opcode argument crc7).f2 = argument.extractLsb 23 16 ∧
    (encodeFrame opcode argument crc7).f3 = argument.extractLsb 15 8 ∧
    (encodeFrame opcode argument crc7).f4 = argument.extractLsb 7 0 ∧
    (encodeFrame opcode argument crc7).f5 = crc7 ++ 0b1#1 ∧
    (encodeFrame opcode argument crc7).f5 = (crc7.zeroExtend 8 <<< 1) ||| 1#8) ∧
  (∀ (argument : Word32) (crc7 : BitVec 7), (encodeFrame 63#6 argument crc7).f0 = 0x7F#8) ∧
  (∀ (opcode : BitVec 6) (argument : Word32),
    (encodeFrame opcode argument 0#7).f5 = 0x01#8 ∧ (encodeFrame opcode argument 0x7F#7).f5 = 0xFF#8) ∧
  (∀ (opcode : BitVec 6) (crc7 : BitVec 7),
    ((encodeFrame opcode 0xFFFFFFFF#32 crc7).bytes.drop 1).take 4 = [0xFF#8, 0xFF#8, 0xFF#8, 0xFF#8]) ∧
  (encodeFrame 0#6 0#32 0x4A#7).bytes = [0x40#8, 0x00#8, 0x00#8, 0x00#8, 0x00#8, 0x95#8] ∧
  (encodeFrame 8#6 0x000001AA#32 0x43#7).bytes = [0x48#8, 0x00#8, 0x00#8, 0x01#8, 0xAA#8, 0x87#8]

/-- R131: the three fields are read back from the frame, so `Encode` is injective, and byte 5 depends on `crc7`
alone. -/
def Obligations.FrameFieldsReadBack : Prop :=
  (∀ (opcode : BitVec 6) (argument : Word32) (crc7 : BitVec 7),
    opcode = (encodeFrame opcode argument crc7).f0.extractLsb 5 0 ∧
    argument = (encodeFrame opcode argument crc7).f1 ++ (encodeFrame opcode argument crc7).f2 ++
      (encodeFrame opcode argument crc7).f3 ++ (encodeFrame opcode argument crc7).f4 ∧
    crc7 = (encodeFrame opcode argument crc7).f5.extractLsb 7 1) ∧
  (∀ (o o' : BitVec 6) (a a' : Word32) (c c' : BitVec 7),
    encodeFrame o a c = encodeFrame o' a' c' → o = o' ∧ a = a' ∧ c = c') ∧
  (∀ (o o' : BitVec 6) (a a' : Word32) (c : BitVec 7), (encodeFrame o a c).f5 = (encodeFrame o' a' c).f5)

/-- Decoding the words of a well-formed instruction gives that instruction and leaves the bytes after them, for every
instruction and every operand value. -/
def Obligations.DecodeOfEncodeIsTheInstruction : Prop :=
  ∀ (i : Instr) (rest : List Byte), i.wellFormed = true → decode (channelOf i) (encode i ++ rest) = .ok (i, rest)

/-- The other direction: what the decoder accepts on any channel is a well-formed instruction whose words are exactly
the bytes it took. -/
def Obligations.EncodeOfDecodeIsTheWord : Prop :=
  ∀ (c : Channel) (bytes rest : List Byte) (i : Instr),
    decode c bytes = .ok (i, rest) → i.wellFormed = true ∧ encode i ++ rest = bytes

/-- A word of every format, written out from the spec's encodings, is read as the instruction it stands for: frames, a
filler, the five response shapes, the token, the read and the written block (any 512 payload bytes), the data response
and the four host operation codes; a byte that is no word of its channel is rejected by name. -/
def Obligations.SpecWordsDecode : Prop :=
  decode .command [0x40#8, 0x00#8, 0x00#8, 0x00#8, 0x00#8, 0x95#8] = .ok (.cmd0, []) ∧
  decode .command [0x51#8, 0x00#8, 0x00#8, 0x06#8, 0x00#8, 0xFF#8] = .ok (.cmd17 0x600#32, []) ∧
  decode .command [0x69#8, 0x40#8, 0x00#8, 0x00#8, 0x00#8, 0xFF#8] = .ok (.acmd41 true, []) ∧
  decode .command [0x52#8, 0x00#8, 0x00#8, 0x00#8, 0x00#8, 0xFF#8] = .error .opcodeNotInSet ∧
  decode (.response .r1) [0xC1#8] = .ok (.filler 0x41#7, []) ∧
  decode (.response .r1) [0x7F#8] = .ok (.r1 0x7F#7, []) ∧
  decode (.response .r2) [0x7B#8, 0x20#8] = .ok (.r2 0x7B#7 0x20#8, []) ∧
  decode (.response .r2) [0x04#8, 0x20#8] = .ok (.r2 0x04#7 0x00#8, [0x20#8]) ∧
  decode (.response .r3) [0x00#8, 0xC0#8, 0xFF#8, 0x80#8, 0x00#8] =
    .ok (.r3 0x00#7 ⟨0xC0#8, 0xFF#8, 0x80#8, 0x00#8⟩, []) ∧
  decode (.response .r7) [0x01#8, 0x00#8, 0x00#8, 0x01#8, 0xAA#8] =
    .ok (.r7 0x01#7 ⟨0x00#8, 0x00#8, 0x01#8, 0xAA#8⟩, []) ∧
  decode (.response .r7) [0x05#8, 0x77#8] = .ok (.r7 0x05#7 ⟨0x00#8, 0x00#8, 0x00#8, 0x00#8⟩, [0x77#8]) ∧
  decode (.response .r1b) [0x00#8, 0x00#8, 0x00#8, 0x01#8] = .ok (.r1b 0x00#7 2 0x01#8, []) ∧
  decode .token [0xFE#8] = .ok (.startToken, []) ∧
  decode .token [0xFF#8] = .error .notStartToken ∧
  (∀ (payload : List Byte) (c0 c1 : Byte), payload.length = 512 →
    decode .dataIn (0xFE#8 :: (payload ++ [c0, c1])) = .ok (.readData payload c0 c1, [])) ∧
  (∀ payload : List Byte, payload.length = 512 →
    decode .dataOut (0xFE#8 :: (payload ++ [0xFF#8, 0xFF#8])) = .ok (.writeData payload, [])) ∧
  decode .dataResp [0xE5#8] = .ok (.dataResp 0b111#3 0b00101#5, []) ∧
  decodeRequest 0#2 7#32 = .nop ∧ decodeRequest 1#2 7#32 = .init ∧ decodeRequest 2#2 7#32 = .readBlock 7#32 ∧
  decodeRequest 3#2 7#32 = .writeBlock 7#32

/-! ## Commands -/

/-- The six commands without operand: each sends its six bytes, byte 0 first, drops what it receives, and hands over to
the reader of its response; nothing else changes. -/
def Obligations.FixedCommandsSendTheirFrames : Prop :=
  ∀ s : State,
    exec .cmd0 s = .next (withFrame ⟨0x40#8, 0x00#8, 0x00#8, 0x00#8, 0x00#8, 0x95#8⟩ s) ∧
    exec .cmd8 s = .next (withFrame ⟨0x48#8, 0x00#8, 0x00#8, 0x01#8, 0xAA#8, 0x87#8⟩ s) ∧
    exec .cmd13 s = .next (withFrame ⟨0x4D#8, 0x00#8, 0x00#8, 0x00#8, 0x00#8, 0xFF#8⟩ s) ∧
    exec .cmd16 s = .next (withFrame ⟨0x50#8, 0x00#8, 0x00#8, 0x02#8, 0x00#8, 0xFF#8⟩ s) ∧
    exec .cmd55 s = .next (withFrame ⟨0x77#8, 0x00#8, 0x00#8, 0x00#8, 0x00#8, 0xFF#8⟩ s) ∧
    exec .cmd58 s = .next (withFrame ⟨0x7A#8, 0x00#8, 0x00#8, 0x00#8, 0x00#8, 0xFF#8⟩ s)

/-- The commands with an operand: 17 and 24 carry the address, most significant byte first, and 41 carries its argument
bit 30 as bit 6 of byte 1. -/
def Obligations.OperandCommandsSendTheirFrames : Prop :=
  ∀ (s : State) (addr : Word32),
    exec (.cmd17 addr) s =
      .next (withFrame ⟨0x51#8, addr.extractLsb 31 24, addr.extractLsb 23 16, addr.extractLsb 15 8,
        addr.extractLsb 7 0, 0xFF#8⟩ s) ∧
    exec (.cmd24 addr) s =
      .next (withFrame ⟨0x58#8, addr.extractLsb 31 24, addr.extractLsb 23 16, addr.extractLsb 15 8,
        addr.extractLsb 7 0, 0xFF#8⟩ s) ∧
    exec (.acmd41 true) s = .next (withFrame ⟨0x69#8, 0x40#8, 0x00#8, 0x00#8, 0x00#8, 0xFF#8⟩ s) ∧
    exec (.acmd41 false) s = .next (withFrame ⟨0x69#8, 0x00#8, 0x00#8, 0x00#8, 0x00#8, 0xFF#8⟩ s)

/-- Command 41 asks for high capacity exactly when the version class is V2. -/
def Obligations.Acmd41FollowsTheVersionClass : Prop :=
  ∀ s : State, s.seq = .i4bSend →
    (s.cs.versionClass = .v2 →
      step s = .next (withFrame ⟨0x69#8, 0x40#8, 0x00#8, 0x00#8, 0x00#8, 0xFF#8⟩ s)) ∧
    (s.cs.versionClass = .legacy →
      step s = .next (withFrame ⟨0x69#8, 0x00#8, 0x00#8, 0x00#8, 0x00#8, 0xFF#8⟩ s))

/-! ## The response reader -/

/-- A byte with bit 7 set is polled again while the budget of 10000 is not used up: one exchange, one count. -/
def Obligations.FillerIsPolledAgain : Prop :=
  ∀ (s : State) (x : BitVec 7), s.pollCnt + 1 < 10000 →
    exec (.filler x) s =
      .next { s with trace := s.trace ++ [.x 0xFF#8 (0b1#1 ++ x)], pollCnt := s.pollCnt + 1 }

/-- The filler that uses up the budget is the reader's Timeout, and the calling step decides what it is: a failure with
the reason of table R241, or in step 1 a failed attempt, of which 255 are made. -/
def Obligations.LastFillerIsTheTimeout : Prop :=
  (∀ (s : State) (x : BitVec 7) (r : Reason), s.pollCnt + 1 = 10000 → s.seq.timeoutReason = some r →
    exec (.filler x) s =
      .next { s with
        trace := s.trace ++ [.x 0xFF#8 (0b1#1 ++ x)], pollCnt := 10000, extValid := false, seq := .fail r }) ∧
  (∀ (s : State) (x : BitVec 7), s.pollCnt + 1 = 10000 → s.seq = .i1Resp →
    exec (.filler x) s =
      .next { s with
        trace := s.trace ++ [.x 0xFF#8 (0b1#1 ++ x)], pollCnt := 10000, extValid := false
        retryCnt := s.retryCnt + 1
        seq := if s.retryCnt + 1 < 255 then .i1Send else .fail .timeout })

/-- The token registers after a response of shape R1, R2, R3 or R7, in every state: as many exchanges as the word has
bytes, `status`, the extension where it was read, `tok_shape`, and `ext_valid` exactly when there is an extension. -/
def Obligations.TokenRegistersHoldTheResponse : Prop :=
  (∀ (s : State) (st : BitVec 7), ∃ t, exec (.r1 st) s = .next t ∧
    t.trace = s.trace ++ receives [0b0#1 ++ st] ∧ t.pollCnt = s.pollCnt + 1 ∧ t.status = 0b0#1 ++ st ∧
    t.tokShape = .r1 ∧ t.extValid = false) ∧
  (∀ (s : State) (st : BitVec 7) (b : Byte), st.getLsbD 2 = false → ∃ t, exec (.r2 st b) s = .next t ∧
    t.trace = s.trace ++ receives [0b0#1 ++ st, b] ∧ t.pollCnt = s.pollCnt + 1 ∧ t.status = 0b0#1 ++ st ∧
    t.status2 = b ∧ t.tokShape = .r2 ∧ t.extValid = true) ∧
  (∀ (s : State) (st : BitVec 7) (b : Byte), st.getLsbD 2 = true → ∃ t, exec (.r2 st b) s = .next t ∧
    t.trace = s.trace ++ receives [0b0#1 ++ st] ∧ t.pollCnt = s.pollCnt + 1 ∧ t.status = 0b0#1 ++ st ∧
    t.tokShape = .r2 ∧ t.extValid = false) ∧
  (∀ (s : State) (st : BitVec 7) (p : Payload), st.getLsbD 2 = false → ∃ t, exec (.r3 st p) s = .next t ∧
    t.trace = s.trace ++ receives [0b0#1 ++ st, p.p0, p.p1, p.p2, p.p3] ∧ t.pollCnt = s.pollCnt + 1 ∧
    t.status = 0b0#1 ++ st ∧ t.payload = p ∧ t.tokShape = .r3 ∧ t.extValid = true) ∧
  (∀ (s : State) (st : BitVec 7) (p : Payload), st.getLsbD 2 = true → ∃ t, exec (.r3 st p) s = .next t ∧
    t.trace = s.trace ++ receives [0b0#1 ++ st] ∧ t.pollCnt = s.pollCnt + 1 ∧ t.status = 0b0#1 ++ st ∧
    t.tokShape = .r3 ∧ t.extValid = false) ∧
  (∀ (s : State) (st : BitVec 7) (p : Payload), st.getLsbD 2 = false → ∃ t, exec (.r7 st p) s = .next t ∧
    t.trace = s.trace ++ receives [0b0#1 ++ st, p.p0, p.p1, p.p2, p.p3] ∧ t.pollCnt = s.pollCnt + 1 ∧
    t.status = 0b0#1 ++ st ∧ t.payload = p ∧ t.tokShape = .r7 ∧ t.extValid = true) ∧
  (∀ (s : State) (st : BitVec 7) (p : Payload), st.getLsbD 2 = true → ∃ t, exec (.r7 st p) s = .next t ∧
    t.trace = s.trace ++ receives [0b0#1 ++ st] ∧ t.pollCnt = s.pollCnt + 1 ∧ t.status = 0b0#1 ++ st ∧
    t.tokShape = .r7 ∧ t.extValid = false)

/-- R1b, in every state: a busy-wait shorter than `BUSY_BUDGET` ends with its non-zero byte and gives a token; one that
is not takes exactly `BUSY_BUDGET` zero bytes and is the reader's Timeout, which the calling step decides. Card State,
session and buffer are untouched where no step asked for the response. No program point reads R1b (log 23), so every
clause is about `exec` and not about a run, and the last clause, that at a point that reads no response no decision is
made, is the model's choice (log 12). -/
def Obligations.BusyResponseIsBounded : Prop :=
  (∀ (s : State) (st : BitVec 7) (zeros : Nat) (last : Byte), last ≠ 0#8 → zeros < s.params.busyBudget →
    ∃ t, exec (.r1b st zeros last) s = .next t ∧
      t.trace = s.trace ++ receives ((0b0#1 ++ st) :: (List.replicate zeros 0x00#8 ++ [last])) ∧
      t.pollCnt = s.pollCnt + 1 ∧ t.busyCnt = zeros + 1 ∧ t.status = 0b0#1 ++ st ∧ t.tokShape = .r1b ∧
      t.extValid = false) ∧
  (∀ (s : State) (st : BitVec 7) (zeros : Nat) (last : Byte), s.params.busyBudget ≤ zeros →
    ∃ t, exec (.r1b st zeros last) s = .next t ∧
      t.trace = s.trace ++ receives ((0b0#1 ++ st) :: List.replicate s.params.busyBudget 0x00#8) ∧
      t.pollCnt = s.pollCnt + 1 ∧ t.busyCnt = s.params.busyBudget ∧ t.extValid = false ∧
      (∀ r, s.seq.timeoutReason = some r → t.seq = .fail r)) ∧
  (∀ (s t : State) (st : BitVec 7) (zeros : Nat) (last : Byte), s.seq.readerShape = none →
    exec (.r1b st zeros last) s = .next t →
    t = { s with
      trace := t.trace, pollCnt := t.pollCnt, busyCnt := t.busyCnt, status := t.status, tokShape := t.tokShape
      extValid := t.extValid })

/-- At a point that reads a response, bytes with bit 7 set are skipped one exchange each, as long as they are fewer
than the budget of 10000: after `k` of them the reader stands where it stood, with `poll_cnt` = `k`, so a status byte
that comes as byte `k + 1` is taken. -/
def Obligations.FillersBeforeTheStatusAreSkipped : Prop :=
  ∀ (s : State) (fillers rest : List Byte), s.seq.readerShape ≠ none → s.pollCnt = 0 →
    s.env = fillers ++ rest → (∀ b ∈ fillers, b.getLsbD 7 = true) → fillers.length < 10000 →
    Leads fillers.length s
      { s with env := rest, trace := s.trace ++ receives fillers, pollCnt := fillers.length }

/-- R159: when every byte has bit 7 set, the reader gives up after exactly 10000 exchanges, in as many steps, and the
step that asked decides: failure, or in step 1 the next attempt. -/
def Obligations.ReaderTimeoutIsExact : Prop :=
  ∀ (s : State) (fillers rest : List Byte), s.seq.readerShape ≠ none → s.pollCnt = 0 →
    s.env = fillers ++ rest → (∀ b ∈ fillers, b.getLsbD 7 = true) → fillers.length = 10000 →
    ∃ t, Leads 10000 s t ∧ t.trace = s.trace ++ receives fillers ∧ t.env = rest ∧ t.extValid = false ∧
      (∀ r, s.seq.timeoutReason = some r → t.seq = .fail r) ∧
      (s.seq = .i1Resp → t.retryCnt = s.retryCnt + 1 ∧
        t.seq = if s.retryCnt + 1 < 255 then .i1Send else .fail .timeout)

/-- The frame of the responses, in every state and for every operand: the trace grows by exchanges, and beside it only
the token registers, the counters, the version class, `cap_pending` and the program point can change. -/
def Obligations.ResponsesLeaveTheRestAlone : Prop :=
  ∀ (i : Instr) (s t : State),
    (∃ x, i = .filler x) ∨ (∃ st, i = .r1 st) ∨ (∃ st zeros last, i = .r1b st zeros last) ∨ (∃ st b, i = .r2 st b) ∨
      (∃ st p, i = .r3 st p) ∨ (∃ st p, i = .r7 st p) →
    exec i s = .next t →
    (∃ bytes, t.trace = s.trace ++ receives bytes) ∧
    t = { s with
      trace := t.trace
      tokShape := t.tokShape, status := t.status, status2 := t.status2, payload := t.payload, extValid := t.extValid
      pollCnt := t.pollCnt, retryCnt := t.retryCnt, acmdCnt := t.acmdCnt, busyCnt := t.busyCnt, tokCnt := t.tokCnt
      byteIdx := t.byteIdx
      cs := { s.cs with versionClass := t.cs.versionClass }
      capPending := t.capPending
      seq := t.seq }

/-! ## The steps of INIT -/

/-- Step 1: the idle-state bit alone is success; otherwise another attempt, or Timeout after 255. -/
def Obligations.ResetStepDecides : Prop :=
  ∀ (s : State) (st : BitVec 7), s.seq = .i1Resp →
    exec (.r1 st) s =
      .next { withStatus .r1 st s with
        retryCnt := s.retryCnt + 1
        seq :=
          if st.getLsbD 0 = true then .i2Send
          else if s.retryCnt + 1 < 255 then .i1Send
          else .fail .timeout }

/-- Step 2: the illegal-command bit makes a Legacy card, the echo of pattern 0xAA and nibble 0x1 a V2 card, and any
other echo a PatternMismatch; the next step is 3 or, without `OCR_CHECK`, 4. -/
def Obligations.VoltageCheckDecides : Prop :=
  ∀ (s : State) (st : BitVec 7) (p : Payload), s.seq = .i2Resp →
    exec (.r7 st p) s =
      .next
        (if st.getLsbD 2 = true then
          afterVersion { withStatus .r7 st s with cs := { s.cs with versionClass := .legacy } }
        else if p.p3 = 0xAA#8 ∧ p.p2.extractLsb 3 0 = 0x1#4 then
          afterVersion { withPayload .r7 st p s with cs := { s.cs with versionClass := .v2 } }
        else { withPayload .r7 st p s with seq := .fail .patternMismatch })

/-- Step 3: the illegal-command bit is IllegalCommand; a voltage window (OCR bits 23:15) of zero is VoltageMismatch;
otherwise step 4 begins. -/
def Obligations.OcrCheckDecides : Prop :=
  ∀ (s : State) (st : BitVec 7) (p : Payload), s.seq = .i3Resp →
    exec (.r3 st p) s =
      .next
        (if st.getLsbD 2 = true then { withStatus .r3 st s with seq := .fail .illegalCommand }
        else if p.p1 = 0x00#8 ∧ p.p2.getLsbD 7 = false then
          { withPayload .r3 st p s with seq := .fail .voltageMismatch }
        else { withPayload .r3 st p s with seq := .i4aSend, acmdCnt := 0 })

/-- Step 4: the status of command 55 is ignored; command 41's idle-state bit set is another iteration, or Timeout after
`ACMD41_BUDGET`; clear, it leaves the loop, for command 58 with a V2 card and for command 16 with any other. -/
def Obligations.IdleWaitDecides : Prop :=
  (∀ (s : State) (st : BitVec 7), s.seq = .i4aResp →
    exec (.r1 st) s = .next { withStatus .r1 st s with seq := .i4bSend }) ∧
  (∀ (s : State) (st : BitVec 7), s.seq = .i4bResp →
    exec (.r1 st) s =
      .next
        (if st.getLsbD 0 = true then
          { withStatus .r1 st s with
            acmdCnt := s.acmdCnt + 1
            seq := if s.acmdCnt + 1 < s.params.acmd41Budget then .i4aSend else .fail .timeout }
        else if s.cs.versionClass = .v2 then
          { withStatus .r1 st s with acmdCnt := s.acmdCnt + 1, seq := .i5Send }
        else
          { withStatus .r1 st s with acmdCnt := s.acmdCnt + 1, capPending := .standard, seq := .i6Send }))

/-- Step 5: the illegal-command bit is IllegalCommand; otherwise OCR bit 30 decides the class held for step 7, and a
Standard card goes through step 6. `cs.capacityClass` is not written. -/
def Obligations.CapacityDetectDecides : Prop :=
  ∀ (s : State) (st : BitVec 7) (p : Payload), s.seq = .i5Resp →
    exec (.r3 st p) s =
      .next
        (if st.getLsbD 2 = true then { withStatus .r3 st s with seq := .fail .illegalCommand }
        else if p.p0.getLsbD 6 = true then { withPayload .r3 st p s with capPending := .high, seq := .iDone }
        else { withPayload .r3 st p s with capPending := .standard, seq := .i6Send })

/-- Step 6: any non-zero status byte is BusError. -/
def Obligations.BlockLenDecides : Prop :=
  ∀ (s : State) (st : BitVec 7), s.seq = .i6Resp →
    exec (.r1 st) s =
      .next { withStatus .r1 st s with seq := if st = 0#7 then .iDone else .fail .busError }

/-! ## The steps of the block operations -/

/-- Commands 17 and 24: any non-zero status byte is BusError; zero opens the token wait with `tok_cnt` = 0, or the data
block. -/
def Obligations.BlockCommandStatusDecides : Prop :=
  (∀ (s : State) (st : BitVec 7), s.seq = .rResp →
    exec (.r1 st) s =
      .next
        (if st = 0#7 then { withStatus .r1 st s with tokCnt := 0, seq := .rToken }
        else { withStatus .r1 st s with seq := .fail .busError })) ∧
  (∀ (s : State) (st : BitVec 7), s.seq = .wResp →
    exec (.r1 st) s =
      .next { withStatus .r1 st s with seq := if st = 0#7 then .wToken else .fail .busError })

/-- Command 13: both status bytes must be zero, `status` decided first; a short response is a CardStatusError. -/
def Obligations.CardStatusDecides : Prop :=
  ∀ (s : State) (st : BitVec 7) (b : Byte), s.seq = .wStResp →
    exec (.r2 st b) s =
      .next
        (if st.getLsbD 2 = true then { withStatus .r2 st s with seq := .fail .cardStatusError }
        else
          { withStatus2 st b s with
            seq := if st = 0#7 ∧ b = 0#8 then .wDesel else .fail .cardStatusError })

/-- The start token: received at R_TOKEN it ends the token wait; at W_TOKEN it is sent, and what is received is
dropped. -/
def Obligations.StartTokenIsTakenOrSent : Prop :=
  (∀ s : State, s.seq = .rToken →
    exec .startToken s =
      .next { s with trace := s.trace ++ [.x 0xFF#8 0xFE#8], tokCnt := s.tokCnt + 1, seq := .rData }) ∧
  (∀ s : State, s.seq = .wToken →
    exec .startToken s =
      .next { afterDraws 1 s with trace := s.trace ++ exchanges [0xFE#8] (envBytes 1 s), seq := .wData })

/-- The token wait: a byte other than 0xFE, whatever it is, is skipped, and after `TOKEN_BUDGET` polls the operation
fails with Timeout. -/
def Obligations.TokenWaitSkipsEveryOtherByte : Prop :=
  ∀ (s : State) (b : Byte), s.seq = .rToken → envBytes 1 s = [b] → b ≠ 0xFE#8 →
    step s =
      .next { afterDraws 1 s with
        trace := s.trace ++ [.x 0xFF#8 b]
        tokCnt := s.tokCnt + 1
        seq := if s.tokCnt + 1 < s.params.tokenBudget then .rToken else .fail .timeout }

/-- The data block of a read: 512 exchanges whose bytes fill `buf` in ascending order, then two whose bytes are
dropped; no other cell and no other register changes, and the buffer keeps its canonical form. -/
def Obligations.ReadDataFillsTheBuffer : Prop :=
  ∀ (s : State) (payload : List Byte) (c0 c1 : Byte), payload.length = 512 →
    ∃ t, exec (.readData payload c0 c1) s = .next t ∧
      (∀ k, k < 512 → Memory.read t.buf k = payload[k]?) ∧
      (∀ a, 512 ≤ a → Memory.read t.buf a = Memory.read s.buf a) ∧
      (Memory.wf s.buf = true → Memory.wf t.buf = true) ∧
      t = { s with
        buf := t.buf
        trace := s.trace ++ receives payload ++ receives [c0, c1]
        byteIdx := 2
        seq := .rDesel }

/-- The data block of a write: 512 exchanges that send the payload in order, then 0xFF 0xFF; what is received is
dropped. At W_DATA the payload is the buffer in ascending order (a cell nothing has written is sent as a free value). -/
def Obligations.WriteDataSendsTheBuffer : Prop :=
  (∀ (s : State) (payload : List Byte), payload.length = 512 →
    exec (.writeData payload) s =
      .next { afterDraws 514 s with
        trace := s.trace ++ exchanges (payload ++ [0xFF#8, 0xFF#8]) (envBytes 514 s)
        byteIdx := 2
        seq := .wDresp }) ∧
  (∀ s : State, s.seq = .wData →
    ∃ payload : List Byte, payload.length = 512 ∧
      (∀ k b, k < 512 → Memory.read s.buf k = some b → payload[k]? = some b) ∧
      step s = exec (.writeData payload) s)

/-- The data-response byte: accepted exactly when its low five bits are 00101, whatever bits 7:5 are; otherwise
WriteRejected with those five bits. -/
def Obligations.DataResponseDecides : Prop :=
  ∀ (s : State) (ignored : BitVec 3) (code : BitVec 5),
    exec (.dataResp ignored code) s =
      .next
        (if code = 0b00101#5 then
          { s with
            trace := s.trace ++ [.x 0xFF#8 (ignored ++ code)], dresp := ignored ++ code, busyCnt := 0, seq := .wBusy }
        else
          { s with
            trace := s.trace ++ [.x 0xFF#8 (ignored ++ code)], dresp := ignored ++ code
            seq := .fail (.writeRejected code) })

/-- The busy-wait of a write: any non-zero byte ends it; a zero byte is polled again, and after `BUSY_BUDGET` of them
the operation fails with Timeout. -/
def Obligations.BusyWaitPolls : Prop :=
  ∀ (s : State) (b : Byte), s.seq = .wBusy → envBytes 1 s = [b] →
    step s =
      .next { afterDraws 1 s with
        trace := s.trace ++ [.x 0xFF#8 b]
        busyCnt := s.busyCnt + 1
        seq :=
          if b ≠ 0#8 then .wStSend
          else if s.busyCnt + 1 < s.params.busyBudget then .wBusy
          else .fail .timeout }

/-! ## The host operations -/

/-- R104: operation code 0 starts nothing and changes no register; a request while `busy` = 1 changes nothing; codes 1,
2 and 3 are INIT, READ_BLOCK and WRITE_BLOCK. -/
def Obligations.RequestCodesAndIgnoredRequests : Prop :=
  (∀ index : Word32, decodeRequest 0#2 index = .nop ∧ decodeRequest 1#2 index = .init ∧
    decodeRequest 2#2 index = .readBlock index ∧ decodeRequest 3#2 index = .writeBlock index) ∧
  (∀ s : State, exec .nop s = .next s) ∧
  (∀ (s : State) (op : BitVec 2) (index : Word32), s.busy = true → exec (decodeRequest op index) s = .next s)

/-- INIT is accepted in every phase when `busy` = 0: the handshake, a fresh CardState and the phase Uninit, in one step
that issues no bus primitive. -/
def Obligations.InitStartsAFreshSession : Prop :=
  ∀ s : State, s.busy = false →
    exec .init s =
      .next { s with
        busy := true, done := false, op := 1#2
        cs := { versionClass := .unknown, capacityClass := .unknown, writeProtected := false }
        phase := .uninit
        seq := .iClk }

/-- INIT entry, its two bus primitives: the initial divider, then select; step 1 begins with `retry_cnt` = 0. -/
def Obligations.InitSetsTheClockThenSelects : Prop :=
  ∀ s : State, s.seq = .iClk →
    Leads 2 s { s with
      trace := s.trace ++ [.clk s.params.clkDivInit, .sel], retryCnt := 0, seq := .i1Send }

/-- Outside the phase Ready a block operation is answered NotInitialized with no bus primitive; `busy` stays 0 and
nothing else about the request is looked at. That `op` and `index` are unchanged too is the model's reading (log 10). -/
def Obligations.BlockOperationsNeedReady : Prop :=
  ∀ (s : State) (index : Word32), s.busy = false → s.phase ≠ .ready →
    exec (.readBlock index) s = .next { s with done := true, resCode := .notInitialized } ∧
    exec (.writeBlock index) s = .next { s with done := true, resCode := .notInitialized }

/-- In the phase Ready a block operation is accepted: the handshake, `op` and `index`. -/
def Obligations.BlockOperationsStart : Prop :=
  ∀ (s : State) (index : Word32), s.busy = false → s.phase = .ready →
    exec (.readBlock index) s =
      .next { s with busy := true, done := false, op := 2#2, index := index, seq := .rSel } ∧
    exec (.writeBlock index) s =
      .next { s with busy := true, done := false, op := 3#2, index := index, seq := .wSel }

/-- A block operation selects the card and translates the index: a byte offset for a Standard card (the low 32 bits of
512 times the index), the index for a High card. With the class Unknown the spec gives the translator no value; that the
machine then stops with the fault `translateUnknown` is the model's choice (log 13). -/
def Obligations.BlockOperationsSelectAndTranslate : Prop :=
  ∀ (s : State) (send : Seq), (s.seq = .rSel ∧ send = .rSend) ∨ (s.seq = .wSel ∧ send = .wSend) →
    (s.cs.capacityClass = .known .standard →
      step s =
        .next { s with trace := s.trace ++ [.sel], addr := BitVec.ofNat 32 (s.index.toNat * 512), seq := send }) ∧
    (s.cs.capacityClass = .known .high →
      step s = .next { s with trace := s.trace ++ [.sel], addr := s.index, seq := send }) ∧
    (s.cs.capacityClass = .unknown → step s = .fault .translateUnknown)

/-- R170: the translator. -/
def Obligations.TranslateLaw : Prop :=
  (∀ i : Word32, translateIndex .standard i = BitVec.ofNat 32 (i.toNat * 512)) ∧
  (∀ i : Word32, translateIndex .high i = i) ∧
  (∀ i : Word32, i.toNat < 2 ^ 23 → (translateIndex .standard i).toNat = i.toNat * 512) ∧
  translateIndex .standard 0#32 = 0#32 ∧ translateIndex .standard 1#32 = 0x00000200#32 ∧
  translateIndex .standard 3#32 = 0x00000600#32 ∧ translateIndex .high 3#32 = 0x00000003#32 ∧
  translateIndex .high 0xFFFFFFFF#32 = 0xFFFFFFFF#32

/-! ## Ends of operations -/

/-- The Ready exit, in its two bus primitives: the class is committed and the phase becomes Ready with the deselect,
then the fast divider and the result. Which write goes with which primitive is the model's choice (log 20). It is the
only place where the phase becomes Ready and the only one where the capacity class leaves Unknown, and in a consistent
Ready session Card State changes only when INIT is accepted. -/
def Obligations.InitSucceeds : Prop :=
  (∀ s : State, s.seq = .iDone →
    Leads 2 s { s with
      cs := { s.cs with capacityClass := .known s.capPending }
      phase := .ready
      trace := s.trace ++ [.desel, .clk s.params.clkDivFast]
      busy := false, done := true, resCode := .ok
      seq := .idle }) ∧
  (∀ s t : State, step s = .next t → s.phase ≠ .ready → t.phase = .ready → s.seq = .iDone) ∧
  (∀ s t : State, step s = .next t → s.cs.capacityClass = .unknown → t.cs.capacityClass ≠ .unknown →
    s.seq = .iDone) ∧
  (∀ s t : State, s.Inv → s.phase = .ready → step s = .next t → t.cs ≠ s.cs → s.seq = .idle ∧ t.seq = .iClk)

/-- R189: the INIT failure exit, and nothing else; in a consistent state the capacity class is still Unknown. -/
def Obligations.InitFails : Prop :=
  ∀ (s : State) (r : Reason), s.seq = .fail r → s.op = 1#2 →
    step s =
      .next { s with
        phase := .failed, failReason := r.code
        trace := s.trace ++ [.desel]
        busy := false, done := true, resCode := r.code
        seq := .idle } ∧
    (s.Inv → s.cs.capacityClass = .unknown)

/-- R220: the failure exit of a block operation, and nothing else; WriteRejected also records its code in `res_info`. -/
def Obligations.BlockOperationFails : Prop :=
  ∀ (s : State) (r : Reason), s.seq = .fail r → s.op ≠ 1#2 →
    step s =
      .next { s with
        trace := s.trace ++ [.desel]
        busy := false, done := true, resCode := r.code
        resInfo := match r with | .writeRejected code => code | _ => s.resInfo
        seq := .idle }

/-- R221: the success exit of both block operations. -/
def Obligations.BlockOperationSucceeds : Prop :=
  ∀ s : State, s.seq = .rDesel ∨ s.seq = .wDesel →
    step s =
      .next { s with
        trace := s.trace ++ [.desel], busy := false, done := true, resCode := .ok, seq := .idle }

/-- R240: the codes of the outcomes; codes 9 to 15 never occur. -/
def Obligations.OutcomeCodes : Prop :=
  ResCode.ok.bits = 0#4 ∧ Reason.timeout.code.bits = 1#4 ∧ Reason.illegalCommand.code.bits = 2#4 ∧
  Reason.voltageMismatch.code.bits = 3#4 ∧ Reason.patternMismatch.code.bits = 4#4 ∧
  (∀ c, (Reason.writeRejected c).code.bits = 5#4) ∧ Reason.cardStatusError.code.bits = 6#4 ∧
  Reason.notInitialized.code.bits = 7#4 ∧ Reason.busError.code.bits = 8#4 ∧
  (∀ c : ResCode, c.bits.toNat < 9)

/-! ## Reset and idle -/

/-- What reset leaves, of the registers the spec gives a value: CardState all Unknown or false, the phase Uninit, the
engine idle, no extension valid, and an empty bus trace; a block operation requested first is answered NotInitialized. -/
def Obligations.ResetState : Prop :=
  State.reset.cs = { versionClass := .unknown, capacityClass := .unknown, writeProtected := false } ∧
  State.reset.phase = .uninit ∧ State.reset.busy = false ∧ State.reset.done = false ∧
  State.reset.extValid = false ∧ State.reset.seq = .idle ∧ State.reset.trace = [] ∧
  (∀ index : Word32, ∃ t, exec (.readBlock index) State.reset = .next t ∧ t.resCode = .notInitialized ∧ t.trace = []) ∧
  (∀ index : Word32, ∃ t, exec (.writeBlock index) State.reset = .next t ∧ t.resCode = .notInitialized ∧ t.trace = [])

/-- At IDLE with nothing for the host to do the engine does nothing; a buffer cell the host writes while `busy` = 0
holds the byte, and nothing else changes. -/
def Obligations.IdleWaitsForTheHost : Prop :=
  (∀ s : State, s.seq = .idle → s.hostQ = [] → step s = .next s) ∧
  (∀ (s : State) (a : BitVec 9) (b : Byte) (rest : List HostMove), s.seq = .idle → s.busy = false →
    s.hostQ = .bufWrite a b :: rest →
    ∃ t, step s = .next t ∧ t = { s with hostQ := rest, buf := t.buf } ∧ Memory.read t.buf a.toNat = some b ∧
      (∀ c, c ≠ a.toNat → Memory.read t.buf c = Memory.read s.buf c))

/-- R41, the host's reads: Card State, phase, fail_reason and the buffer only while `busy` = 0, the result only while
`done` = 1, the handshake always. (Where the register holds no value by its own rule, a read gives none.) -/
def Obligations.HostReadsOnlyByContract : Prop :=
  (∀ (s : State) (r : HostReg), s.busy = true →
    r = .versionClass ∨ r = .capacityClass ∨ r = .writeProtected ∨ r = .phase ∨ r = .failReason ∨
      (∃ a, r = .buf a) → hostRead r s = none) ∧
  (∀ (s : State) (r : HostReg), s.done = false → r = .resCode ∨ r = .resInfo → hostRead r s = none) ∧
  (∀ s : State, hostRead .busy s = some s.busy.toNat ∧ hostRead .done s = some s.done.toNat) ∧
  (∀ s : State, s.busy = false →
    hostRead .versionClass s = some s.cs.versionClass.bits.toNat ∧
    hostRead .capacityClass s = some s.cs.capacityClass.bits.toNat ∧
    hostRead .writeProtected s = some s.cs.writeProtected.toNat ∧
    hostRead .phase s = some s.phase.bits.toNat ∧
    (s.phase = .failed → hostRead .failReason s = some s.failReason.bits.toNat) ∧
    (∀ a b, Memory.read s.buf (BitVec.toNat (w := 9) a) = some b → hostRead (.buf a) s = some b.toNat)) ∧
  (∀ s : State, s.done = true →
    hostRead .resCode s = some s.resCode.bits.toNat ∧
    (s.resCode = .writeRejected → hostRead .resInfo s = some s.resInfo.toNat))

/-! ## A step -/

/-- A step runs the instruction decoded where the sequencer stands: at IDLE the host's request; at a response point
the word the environment's next bytes are; at a command point the command, its operand taken from the registers; at the
points of the data path the token, the block and the data response. Around `exec` the step does nothing but take the
bytes or the request. -/
def Obligations.StepRunsTheDecodedInstruction : Prop :=
  (∀ (s : State) (op : BitVec 2) (index : Word32) (rest : List HostMove), s.seq = .idle →
    s.hostQ = .request op index :: rest → step s = exec (decodeRequest op index) { s with hostQ := rest }) ∧
  (∀ (s : State) (sh : Shape) (n : Nat) (i : Instr), s.seq.readerShape = some sh →
    decode (.response sh) (envBytes n s) = .ok (i, []) → step s = exec i (afterDraws n s)) ∧
  (∀ s : State,
    (s.seq = .i1Send → step s = exec .cmd0 s) ∧ (s.seq = .i2Send → step s = exec .cmd8 s) ∧
    (s.seq = .i3Send → step s = exec .cmd58 s) ∧ (s.seq = .i4aSend → step s = exec .cmd55 s) ∧
    (s.seq = .i4bSend → step s = exec (.acmd41 (decide (s.cs.versionClass = .v2))) s) ∧
    (s.seq = .i5Send → step s = exec .cmd58 s) ∧ (s.seq = .i6Send → step s = exec .cmd16 s) ∧
    (s.seq = .rSend → step s = exec (.cmd17 s.addr) s) ∧ (s.seq = .wSend → step s = exec (.cmd24 s.addr) s) ∧
    (s.seq = .wStSend → step s = exec .cmd13 s) ∧ (s.seq = .wToken → step s = exec .startToken s) ∧
    (s.seq = .wData → step s = exec (.writeData (bufBytes s.buf)) s)) ∧
  (∀ s : State, s.seq = .rToken → envBytes 1 s = [0xFE#8] → step s = exec .startToken (afterDraws 1 s)) ∧
  (∀ (s : State) (i : Instr), s.seq = .rData → decode .dataIn (0xFE#8 :: envBytes 514 s) = .ok (i, []) →
    step s = exec i (afterDraws 514 s)) ∧
  (∀ (s : State) (i : Instr), s.seq = .wDresp → decode .dataResp (envBytes 1 s) = .ok (i, []) →
    step s = exec i (afterDraws 1 s))

/-! ## Invariants -/

/-- The reset state is consistent and its counters are below their budgets. -/
def Obligations.ResetIsConsistent : Prop := State.reset.Inv ∧ State.reset.CountersBelow

/-- Every step keeps the invariant: Card State against phase, the handshake, IDLE exactly while `busy` = 0, the bus
discipline with chip-select at the level of the program point, `cs.writeProtected` false, the buffer canonical. -/
def Obligations.StepKeepsConsistency : Prop :=
  ∀ s t : State, s.Inv → step s = .next t → t.Inv

/-- Every step keeps the counters below their budgets wherever they are compared with them. -/
def Obligations.StepKeepsCountersBelow : Prop :=
  ∀ s t : State, s.CountersBelow → step s = .next t → t.CountersBelow

/-- From a consistent state a step never stops: no fault and no refusal. -/
def Obligations.ConsistentStatesNeverStop : Prop :=
  ∀ s : State, s.Inv → ∃ t, step s = .next t

/-- Card State is written in three places only: INIT entry makes it fresh, step 2 writes the version class, and the
Ready transition commits the capacity class. -/
def Obligations.CardStateIsWrittenInThreePlaces : Prop :=
  ∀ s t : State, step s = .next t → t.cs ≠ s.cs →
    (s.seq = .idle ∧ t.seq = .iClk ∧
      t.cs = { versionClass := .unknown, capacityClass := .unknown, writeProtected := false }) ∨
    (s.seq = .i2Resp ∧ (t.cs = { s.cs with versionClass := .legacy } ∨ t.cs = { s.cs with versionClass := .v2 })) ∨
    (s.seq = .iDone ∧ t.phase = .ready ∧ t.cs = { s.cs with capacityClass := .known s.capPending })

/-- The phase changes in three places only: to Uninit by INIT entry, to Ready by the Ready transition, to Failed by the
failure exit of INIT; so no block operation changes it. -/
def Obligations.PhaseChangesInThreePlaces : Prop :=
  ∀ s t : State, step s = .next t → t.phase ≠ s.phase →
    (s.seq = .idle ∧ t.seq = .iClk ∧ t.phase = .uninit) ∨
    (s.seq = .iDone ∧ t.phase = .ready) ∨
    (s.op = 1#2 ∧ (∃ r, s.seq = .fail r) ∧ t.phase = .failed)

/-- The bus trace only grows, the parameters never change, and the host's moves are looked at only at IDLE. -/
def Obligations.TraceGrowsAndInputsWait : Prop :=
  ∀ s t : State, step s = .next t →
    (∃ events, t.trace = s.trace ++ events) ∧ t.params = s.params ∧ (s.seq ≠ .idle → t.hostQ = s.hostQ)

/-- The buffer is written in two places only: by the data block of a read, and by the host while the engine is idle. So
a READ_BLOCK that fails leaves it as it was, and a WRITE_BLOCK never writes it. -/
def Obligations.BufferIsWrittenInTwoPlaces : Prop :=
  ∀ s t : State, step s = .next t → t.buf ≠ s.buf →
    s.seq = .rData ∨
    (s.seq = .idle ∧ s.busy = false ∧
      ∃ a b rest, s.hostQ = .bufWrite a b :: rest ∧ t.buf = Memory.write s.buf a.toNat b)

/-- The data in the buffer does not steer the engine: from two states that differ only in the buffer, a step gives
states that differ only in the buffer and the trace, and in the trace only at W_DATA, where the buffer is sent. -/
def Obligations.BufferDoesNotSteerTheEngine : Prop :=
  ∀ (s t : State) (m : Memory), step s = .next t →
    ∃ t', step { s with buf := m } = .next t' ∧ t' = { t with buf := t'.buf, trace := t'.trace } ∧
      (s.seq ≠ .wData → t'.trace = t.trace) ∧ t'.trace.length = t.trace.length

/-! ## Whole operations -/

/-- Every operation ends: from every consistent state the engine comes to IDLE, whatever the environment answers. It
rests on two of the model's choices: every bus primitive completes (log 15), and a counter at or past its budget, which
no run reaches and `Inv` does not rule out, ends its wait (log 7). -/
def Obligations.EveryOperationEnds : Prop :=
  ∀ s : State, s.Inv → ∃ t, Reaches s t ∧ t.seq = .idle ∧ t.busy = false

/-- READ_BLOCK of a Ready card that answers: `OK`, the 512 bytes in the buffer, and exactly the bus trace of the rules,
fillers and skipped bytes included. -/
def Obligations.ReadBlockDeliversTheBlock : Prop :=
  ∀ (s : State) (c : Capacity) (i : Word32) (moves : List HostMove)
    (dropped fillers skipped data rest : List Byte) (c0 c1 : Byte),
    s.seq = .idle → s.busy = false → s.phase = .ready → s.cs.capacityClass = .known c →
    s.hostQ = .request 2#2 i :: moves →
    s.env = dropped ++ fillers ++ [0x00#8] ++ skipped ++ [0xFE#8] ++ data ++ [c0, c1] ++ rest →
    dropped.length = 6 → (∀ b ∈ fillers, b.getLsbD 7 = true) → fillers.length < 10000 →
    (∀ b ∈ skipped, b ≠ 0xFE#8) → skipped.length < s.params.tokenBudget → data.length = 512 →
    ∃ t, Reaches s t ∧ t.seq = .idle ∧ t.busy = false ∧ t.done = true ∧ t.resCode = .ok ∧
      (∀ k, k < 512 → Memory.read t.buf k = data[k]?) ∧ t.cs = s.cs ∧ t.phase = .ready ∧
      t.hostQ = moves ∧ t.env = rest ∧ t.params = s.params ∧
      t.trace = s.trace ++ [.sel] ++ exchanges (encode (.cmd17 (translateIndex c i))) dropped ++
        receives (fillers ++ [0x00#8]) ++ receives (skipped ++ [0xFE#8]) ++ receives data ++ receives [c0, c1] ++
        [.desel]

/-- WRITE_BLOCK to a Ready card that accepts: `OK`, the buffer unchanged, and exactly the bus trace of the rules: the
command, the token, the 512 bytes of the buffer in ascending order, the dummy CRC, the data response, the busy-wait and
command 13. (A cell nothing has written is sent as a free value, log 6.) -/
def Obligations.WriteBlockSendsTheBlock : Prop :=
  ∀ (s : State) (c : Capacity) (i : Word32) (moves : List HostMove)
    (dropped fillers dropped515 dropped13 fillers13 rest : List Byte) (ignored : BitVec 3) (zeros : Nat)
    (released : Byte),
    s.seq = .idle → s.busy = false → s.phase = .ready → s.cs.capacityClass = .known c →
    s.hostQ = .request 3#2 i :: moves →
    s.env = dropped ++ fillers ++ [0x00#8] ++ dropped515 ++ [ignored ++ 0b00101#5] ++
      List.replicate zeros 0x00#8 ++ [released] ++ dropped13 ++ fillers13 ++ [0x00#8, 0x00#8] ++ rest →
    dropped.length = 6 → (∀ b ∈ fillers, b.getLsbD 7 = true) → fillers.length < 10000 → dropped515.length = 515 →
    released ≠ 0#8 → zeros < s.params.busyBudget → dropped13.length = 6 →
    (∀ b ∈ fillers13, b.getLsbD 7 = true) → fillers13.length < 10000 →
    ∃ t, Reaches s t ∧ t.seq = .idle ∧ t.busy = false ∧ t.done = true ∧ t.resCode = .ok ∧
      t.buf = s.buf ∧ t.cs = s.cs ∧ t.phase = .ready ∧ t.hostQ = moves ∧ t.env = rest ∧ t.params = s.params ∧
      t.trace = s.trace ++ [.sel] ++ exchanges (encode (.cmd24 (translateIndex c i))) dropped ++
        receives (fillers ++ [0x00#8]) ++
        exchanges (0xFE#8 :: (bufBytes s.buf ++ [0xFF#8, 0xFF#8])) dropped515 ++
        receives [ignored ++ 0b00101#5] ++ receives (List.replicate zeros 0x00#8 ++ [released]) ++
        exchanges (encode .cmd13) dropped13 ++ receives (fillers13 ++ [0x00#8, 0x00#8]) ++ [.desel]

/-- The round trip on a loopback card: after WRITE_BLOCK of an index, any buffer writes of the host, and READ_BLOCK of
the same index, both operations have ended `OK` and the buffer holds the block it held at the start. The two traces are
stated whole: the frames of commands 24 and 17 carry the same argument, the block goes out under the one, and the script
answers the other with that block, as a card does that stores and answers by argument. Fillers before each status, a
busy-wait and skipped bytes before the token are allowed up to their budgets. (A cell nothing has written is sent, and
given back, as its free value, log 6.) -/
def Obligations.WriteThenReadGivesTheBlockBack : Prop :=
  ∀ (s : State) (c : Capacity) (i : Word32) (writes : List (BitVec 9 × Byte)) (moves : List HostMove)
    (a24 a13 a17 : Answer) (dropped515 skipped rest : List Byte) (ignored : BitVec 3) (zeros : Nat)
    (released c0 c1 : Byte),
    s.seq = .idle → s.busy = false → s.phase = .ready → s.cs.capacityClass = .known c →
    s.hostQ = .request 3#2 i :: (writes.map (fun w => HostMove.bufWrite w.1 w.2) ++ .request 2#2 i :: moves) →
    s.env = a24.bytes ++ dropped515 ++ [ignored ++ 0b00101#5] ++ List.replicate zeros 0x00#8 ++ [released] ++
      a13.bytes ++ a17.bytes ++ skipped ++ [0xFE#8] ++ bufBytes s.buf ++ [c0, c1] ++ rest →
    a24.Timely → a24.response = [0x00#8] → dropped515.length = 515 → released ≠ 0#8 → zeros < s.params.busyBudget →
    a13.Timely → a13.response = [0x00#8, 0x00#8] → a17.Timely → a17.response = [0x00#8] →
    (∀ b ∈ skipped, b ≠ 0xFE#8) → skipped.length < s.params.tokenBudget →
    ∃ u t, Reaches s u ∧ u.seq = .idle ∧ u.done = true ∧ u.resCode = .ok ∧ u.buf = s.buf ∧
      u.trace = s.trace ++ [.sel] ++ a24.trace (.cmd24 (translateIndex c i)) ++
        exchanges (0xFE#8 :: (bufBytes s.buf ++ [0xFF#8, 0xFF#8])) dropped515 ++
        receives ((ignored ++ 0b00101#5) :: (List.replicate zeros 0x00#8 ++ [released])) ++ a13.trace .cmd13 ++
        [.desel] ∧
      Reaches u t ∧ t.seq = .idle ∧ t.busy = false ∧ t.done = true ∧ t.resCode = .ok ∧
      bufBytes t.buf = bufBytes s.buf ∧ t.cs = s.cs ∧ t.phase = .ready ∧ t.hostQ = moves ∧ t.env = rest ∧
      t.trace = u.trace ++ [.sel] ++ a17.trace (.cmd17 (translateIndex c i)) ++ receives (skipped ++ [0xFE#8]) ++
        receives (bufBytes s.buf) ++ receives [c0, c1] ++ [.desel]

/-- INIT with no card: 255 attempts, each the frame of command 0 and 10000 polls that find bit 7 set, and then Timeout
with the classes Unknown. The trace is stated whole: nothing but the attempts stands between select and deselect, which
makes 2551530 exchanges, and the divider stays at its initial value. -/
def Obligations.InitWithoutCardTimesOut : Prop :=
  ∀ (s : State) (moves : List HostMove) (index : Word32) (attempts : List Answer) (rest : List Byte),
    s.seq = .idle → s.busy = false → s.hostQ = .request 1#2 index :: moves →
    s.env = attempts.flatMap Answer.bytes ++ rest → attempts.length = 255 →
    (∀ a ∈ attempts, a.dropped.length = 6 ∧ a.fillers.length = 10000 ∧ (∀ b ∈ a.fillers, b.getLsbD 7 = true) ∧
      a.response = []) →
    ∃ t, Reaches s t ∧ t.seq = .idle ∧ t.busy = false ∧ t.done = true ∧ t.resCode = .timeout ∧
      t.phase = .failed ∧ t.failReason = .timeout ∧ t.cs.versionClass = .unknown ∧
      t.cs.capacityClass = .unknown ∧ t.retryCnt = 255 ∧ t.buf = s.buf ∧ t.hostQ = moves ∧ t.env = rest ∧
      t.trace = s.trace ++ [.clk s.params.clkDivInit, .sel] ++ attempts.flatMap (fun a => a.trace .cmd0) ++ [.desel] ∧
      (attempts.flatMap (fun a => a.trace .cmd0)).length = 255 * (6 + 10000)

/-- INIT of a V2 high-capacity card: idle on command 0, the echo on command 8, with `OCR_CHECK` an OCR with a voltage bit
set on the first command 58, any number of idle answers to command 41 below `ACMD41_BUDGET` and then one with the idle
bit clear, and an OCR with bit 30 set. Fillers before every status are allowed up to the budget. The session is Ready
with the classes V2 and High, and the trace is stated whole. -/
def Obligations.InitReadiesAHighCapacityCard : Prop :=
  ∀ (s : State) (moves : List HostMove) (index : Word32) (a0 a8 a58ocr a55 a41 a58 : Answer)
    (loops : List (Answer × Answer)) (st0 st8 st58ocr st55 st41 st58 e0 e1 e2 o0 o1 o2 o3 q0 q1 q2 q3 : Byte)
    (rest : List Byte),
    s.seq = .idle → s.busy = false → s.hostQ = .request 1#2 index :: moves →
    s.env = a0.bytes ++ a8.bytes ++ (if s.params.ocrCheck = true then a58ocr.bytes else []) ++
      loops.flatMap (fun l => l.1.bytes ++ l.2.bytes) ++ a55.bytes ++ a41.bytes ++ a58.bytes ++ rest →
    a0.Timely → a8.Timely → a58ocr.Timely → a55.Timely → a41.Timely → a58.Timely →
    (∀ l ∈ loops, l.1.Timely ∧ l.2.Timely ∧
      ∃ x y : Byte, l.1.response = [x] ∧ x.getLsbD 7 = false ∧
        l.2.response = [y] ∧ y.getLsbD 7 = false ∧ y.getLsbD 0 = true) →
    loops.length < s.params.acmd41Budget →
    a0.response = [st0] → st0.getLsbD 7 = false → st0.getLsbD 0 = true →
    a8.response = [st8, e0, e1, e2, 0xAA#8] → st8.getLsbD 7 = false → st8.getLsbD 2 = false →
    e2.extractLsb 3 0 = 0x1#4 →
    a58ocr.response = [st58ocr, o0, o1, o2, o3] → st58ocr.getLsbD 7 = false → st58ocr.getLsbD 2 = false →
    ¬ (o1 = 0x00#8 ∧ o2.getLsbD 7 = false) →
    a55.response = [st55] → st55.getLsbD 7 = false →
    a41.response = [st41] → st41.getLsbD 7 = false → st41.getLsbD 0 = false →
    a58.response = [st58, q0, q1, q2, q3] → st58.getLsbD 7 = false → st58.getLsbD 2 = false →
    q0.getLsbD 6 = true →
    ∃ t, Reaches s t ∧ t.seq = .idle ∧ t.busy = false ∧ t.done = true ∧ t.resCode = .ok ∧ t.phase = .ready ∧
      t.cs = { versionClass := .v2, capacityClass := .known .high, writeProtected := false } ∧
      t.buf = s.buf ∧ t.env = rest ∧ t.hostQ = moves ∧
      t.trace = s.trace ++ [.clk s.params.clkDivInit, .sel] ++ a0.trace .cmd0 ++ a8.trace .cmd8 ++
        (if s.params.ocrCheck = true then a58ocr.trace .cmd58 else []) ++
        loops.flatMap (fun l => l.1.trace .cmd55 ++ l.2.trace (.acmd41 true)) ++ a55.trace .cmd55 ++
        a41.trace (.acmd41 true) ++ a58.trace .cmd58 ++ [.desel, .clk s.params.clkDivFast]
end

