-- ==== Sys2Proof/Laws/Decode.lean ====
section
/-!
SUPPORT. The byte groups the sequencer hands to the decoder, and what the decoder makes of them: the small lemmas of
the formats.
-/

namespace Sys2Proof

@[simp] theorem bytes_length (f : Frame) : f.bytes.length = 6 := rfl

@[simp] theorem payload_bytes_length (p : Payload) : p.bytes.length = 4 := rfl

@[simp] theorem bytes32_length (w : Word32) : (bytes32 w).length = 4 := rfl

/-- A byte with bit 7 set is the filler of its other bits. -/
theorem fillerByte_extract {b : Byte} (h : b.getLsbD 7 = true) : fillerByte (b.extractLsb' 0 7) = b := by
  revert b; decide

/-- A byte with bit 7 clear is the status byte of its other bits. -/
theorem statusByte_extract {b : Byte} (h : b.getLsbD 7 = false) : statusByte (b.extractLsb' 0 7) = b := by
  revert b; decide

theorem fillerByte_bit7 (x : BitVec 7) : (fillerByte x).getLsbD 7 = true := by revert x; decide

theorem statusByte_bit7 (s : BitVec 7) : (statusByte s).getLsbD 7 = false := by revert s; decide

@[simp] theorem fillerByte_low (x : BitVec 7) : (fillerByte x).extractLsb' 0 7 = x := by revert x; decide

@[simp] theorem statusByte_low (s : BitVec 7) : (statusByte s).extractLsb' 0 7 = s := by revert s; decide

/-- The bits of a status byte below bit 7 are those of its operand. -/
theorem statusByte_getLsbD_two (s : BitVec 7) : (statusByte s).getLsbD 2 = s.getLsbD 2 := by
  revert s; decide

/-- A data-response byte is its two fields. -/
theorem dataRespByte_extract (b : Byte) : dataRespByte (b.extractLsb' 5 3) (b.extractLsb' 0 5) = b := by
  revert b; decide

@[simp] theorem dataRespByte_high (i : BitVec 3) (c : BitVec 5) : (dataRespByte i c).extractLsb' 5 3 = i := by
  revert i c; decide

@[simp] theorem dataRespByte_low (i : BitVec 3) (c : BitVec 5) : (dataRespByte i c).extractLsb' 0 5 = c := by
  revert i c; decide

/-- A filler is read as one on every response channel. -/
theorem decode_filler (shape : Shape) {b : Byte} (h : b.getLsbD 7 = true) (rest : List Byte) :
    decode (.response shape) (b :: rest) = .ok (.filler (b.extractLsb' 0 7), rest) := by
  simp [decode, decodeResponse, h]

theorem decode_r1 {b : Byte} (h : b.getLsbD 7 = false) (rest : List Byte) :
    decode (.response .r1) (b :: rest) = .ok (.r1 (b.extractLsb' 0 7), rest) := by
  simp only [decode, decodeResponse, decodeStatus, h]
  rfl

theorem extract_bit2 (b : Byte) : (b.extractLsb' 0 7).getLsbD 2 = b.getLsbD 2 := by revert b; decide

theorem decode_r2_short {b : Byte} (h : b.getLsbD 7 = false) (hi : b.getLsbD 2 = true) (rest : List Byte) :
    decode (.response .r2) (b :: rest) = .ok (.r2 (b.extractLsb' 0 7) 0#8, rest) := by
  simp only [decode, decodeResponse, decodeStatus, h, extract_bit2, hi]
  rfl

theorem decode_r2_full {b : Byte} (h : b.getLsbD 7 = false) (hi : b.getLsbD 2 = false) (t : Byte)
    (rest : List Byte) : decode (.response .r2) (b :: t :: rest) = .ok (.r2 (b.extractLsb' 0 7) t, rest) := by
  simp only [decode, decodeResponse, decodeStatus, h, extract_bit2, hi]
  rfl

theorem decode_r3_short {b : Byte} (h : b.getLsbD 7 = false) (hi : b.getLsbD 2 = true) (rest : List Byte) :
    decode (.response .r3) (b :: rest) = .ok (.r3 (b.extractLsb' 0 7) ⟨0#8, 0#8, 0#8, 0#8⟩, rest) := by
  simp only [decode, decodeResponse, decodeStatus, h, extract_bit2, hi]
  rfl

theorem decode_r3_full {b : Byte} (h : b.getLsbD 7 = false) (hi : b.getLsbD 2 = false) (p : Payload)
    (rest : List Byte) :
    decode (.response .r3) (b :: (p.bytes ++ rest)) = .ok (.r3 (b.extractLsb' 0 7) p, rest) := by
  simp only [decode, decodeResponse, decodeStatus, h, extract_bit2, hi]
  rfl

theorem decode_r7_short {b : Byte} (h : b.getLsbD 7 = false) (hi : b.getLsbD 2 = true) (rest : List Byte) :
    decode (.response .r7) (b :: rest) = .ok (.r7 (b.extractLsb' 0 7) ⟨0#8, 0#8, 0#8, 0#8⟩, rest) := by
  simp only [decode, decodeResponse, decodeStatus, h, extract_bit2, hi]
  rfl

theorem decode_r7_full {b : Byte} (h : b.getLsbD 7 = false) (hi : b.getLsbD 2 = false) (p : Payload)
    (rest : List Byte) :
    decode (.response .r7) (b :: (p.bytes ++ rest)) = .ok (.r7 (b.extractLsb' 0 7) p, rest) := by
  simp only [decode, decodeResponse, decodeStatus, h, extract_bit2, hi]
  rfl

/-- Four bytes are a payload. -/
theorem exists_payload_of_length {bs : List Byte} (h : bs.length = 4) : ∃ p : Payload, p.bytes = bs := by
  match bs, h with
  | [a, b, c, d], _ => exact ⟨⟨a, b, c, d⟩, rfl⟩

/-- The 514 bytes after a start token are a read block. -/
theorem decode_dataIn (payload : List Byte) (c0 c1 : Byte) (h : payload.length = Config.blockSize)
    (rest : List Byte) :
    decode .dataIn (Config.startToken :: (payload ++ c0 :: c1 :: rest)) = .ok (.readData payload c0 c1, rest) := by
  simp [decode, decodeDataIn, ← h]

/-- 514 bytes are 512 and two. -/
theorem exists_block_of_length {bs : List Byte} (h : bs.length = Config.blockSize + 2) :
    ∃ payload c0 c1, payload.length = Config.blockSize ∧ bs = payload ++ [c0, c1] := by
  refine ⟨bs.take Config.blockSize, ?_⟩
  have hl : (bs.drop Config.blockSize).length = 2 := by simp [h]
  match hd : bs.drop Config.blockSize, hl with
  | [a, b], _ => exact ⟨a, b, by simp [h], by rw [← hd, List.take_append_drop]⟩

end Sys2Proof
end

