-- ==== Sys2Proof/Laws/State.lean ====
section
/-!
SUPPORT. One lemma per field of `State` per elementary update, each true by definition, so that no proof unfolds a record
update.
-/

namespace Sys2Proof.Machine

section emit
variable (e : BusEvent) (s : State)
@[simp] theorem emit_cs : (emit e s).cs = s.cs := rfl
@[simp] theorem emit_phase : (emit e s).phase = s.phase := rfl
@[simp] theorem emit_failReason : (emit e s).failReason = s.failReason := rfl
@[simp] theorem emit_busy : (emit e s).busy = s.busy := rfl
@[simp] theorem emit_done : (emit e s).done = s.done := rfl
@[simp] theorem emit_resCode : (emit e s).resCode = s.resCode := rfl
@[simp] theorem emit_resInfo : (emit e s).resInfo = s.resInfo := rfl
@[simp] theorem emit_op : (emit e s).op = s.op := rfl
@[simp] theorem emit_index : (emit e s).index = s.index := rfl
@[simp] theorem emit_addr : (emit e s).addr = s.addr := rfl
@[simp] theorem emit_frame : (emit e s).frame = s.frame := rfl
@[simp] theorem emit_tokShape : (emit e s).tokShape = s.tokShape := rfl
@[simp] theorem emit_status : (emit e s).status = s.status := rfl
@[simp] theorem emit_status2 : (emit e s).status2 = s.status2 := rfl
@[simp] theorem emit_payload : (emit e s).payload = s.payload := rfl
@[simp] theorem emit_extValid : (emit e s).extValid = s.extValid := rfl
@[simp] theorem emit_dresp : (emit e s).dresp = s.dresp := rfl
@[simp] theorem emit_pollCnt : (emit e s).pollCnt = s.pollCnt := rfl
@[simp] theorem emit_retryCnt : (emit e s).retryCnt = s.retryCnt := rfl
@[simp] theorem emit_acmdCnt : (emit e s).acmdCnt = s.acmdCnt := rfl
@[simp] theorem emit_busyCnt : (emit e s).busyCnt = s.busyCnt := rfl
@[simp] theorem emit_tokCnt : (emit e s).tokCnt = s.tokCnt := rfl
@[simp] theorem emit_byteIdx : (emit e s).byteIdx = s.byteIdx := rfl
@[simp] theorem emit_capPending : (emit e s).capPending = s.capPending := rfl
@[simp] theorem emit_buf : (emit e s).buf = s.buf := rfl
@[simp] theorem emit_seq : (emit e s).seq = s.seq := rfl
@[simp] theorem emit_trace : (emit e s).trace = s.trace ++ [e] := rfl
@[simp] theorem emit_params : (emit e s).params = s.params := rfl
@[simp] theorem emit_hostQ : (emit e s).hostQ = s.hostQ := rfl
@[simp] theorem emit_env : (emit e s).env = s.env := rfl
@[simp] theorem emit_envDrawn : (emit e s).envDrawn = s.envDrawn := rfl
end emit

section goto
variable (p : Seq) (s : State)
@[simp] theorem goto_cs : (goto p s).cs = s.cs := rfl
@[simp] theorem goto_phase : (goto p s).phase = s.phase := rfl
@[simp] theorem goto_failReason : (goto p s).failReason = s.failReason := rfl
@[simp] theorem goto_busy : (goto p s).busy = s.busy := rfl
@[simp] theorem goto_done : (goto p s).done = s.done := rfl
@[simp] theorem goto_resCode : (goto p s).resCode = s.resCode := rfl
@[simp] theorem goto_resInfo : (goto p s).resInfo = s.resInfo := rfl
@[simp] theorem goto_op : (goto p s).op = s.op := rfl
@[simp] theorem goto_index : (goto p s).index = s.index := rfl
@[simp] theorem goto_addr : (goto p s).addr = s.addr := rfl
@[simp] theorem goto_frame : (goto p s).frame = s.frame := rfl
@[simp] theorem goto_tokShape : (goto p s).tokShape = s.tokShape := rfl
@[simp] theorem goto_status : (goto p s).status = s.status := rfl
@[simp] theorem goto_status2 : (goto p s).status2 = s.status2 := rfl
@[simp] theorem goto_payload : (goto p s).payload = s.payload := rfl
@[simp] theorem goto_extValid : (goto p s).extValid = s.extValid := rfl
@[simp] theorem goto_dresp : (goto p s).dresp = s.dresp := rfl
@[simp] theorem goto_pollCnt : (goto p s).pollCnt = s.pollCnt := rfl
@[simp] theorem goto_retryCnt : (goto p s).retryCnt = s.retryCnt := rfl
@[simp] theorem goto_acmdCnt : (goto p s).acmdCnt = s.acmdCnt := rfl
@[simp] theorem goto_busyCnt : (goto p s).busyCnt = s.busyCnt := rfl
@[simp] theorem goto_tokCnt : (goto p s).tokCnt = s.tokCnt := rfl
@[simp] theorem goto_byteIdx : (goto p s).byteIdx = s.byteIdx := rfl
@[simp] theorem goto_capPending : (goto p s).capPending = s.capPending := rfl
@[simp] theorem goto_buf : (goto p s).buf = s.buf := rfl
@[simp] theorem goto_seq : (goto p s).seq = p := rfl
@[simp] theorem goto_trace : (goto p s).trace = s.trace := rfl
@[simp] theorem goto_params : (goto p s).params = s.params := rfl
@[simp] theorem goto_hostQ : (goto p s).hostQ = s.hostQ := rfl
@[simp] theorem goto_env : (goto p s).env = s.env := rfl
@[simp] theorem goto_envDrawn : (goto p s).envDrawn = s.envDrawn := rfl
end goto

section clearByteIdx
variable (s : State)
@[simp] theorem clearByteIdx_cs : (clearByteIdx s).cs = s.cs := rfl
@[simp] theorem clearByteIdx_phase : (clearByteIdx s).phase = s.phase := rfl
@[simp] theorem clearByteIdx_failReason : (clearByteIdx s).failReason = s.failReason := rfl
@[simp] theorem clearByteIdx_busy : (clearByteIdx s).busy = s.busy := rfl
@[simp] theorem clearByteIdx_done : (clearByteIdx s).done = s.done := rfl
@[simp] theorem clearByteIdx_resCode : (clearByteIdx s).resCode = s.resCode := rfl
@[simp] theorem clearByteIdx_resInfo : (clearByteIdx s).resInfo = s.resInfo := rfl
@[simp] theorem clearByteIdx_op : (clearByteIdx s).op = s.op := rfl
@[simp] theorem clearByteIdx_index : (clearByteIdx s).index = s.index := rfl
@[simp] theorem clearByteIdx_addr : (clearByteIdx s).addr = s.addr := rfl
@[simp] theorem clearByteIdx_frame : (clearByteIdx s).frame = s.frame := rfl
@[simp] theorem clearByteIdx_tokShape : (clearByteIdx s).tokShape = s.tokShape := rfl
@[simp] theorem clearByteIdx_status : (clearByteIdx s).status = s.status := rfl
@[simp] theorem clearByteIdx_status2 : (clearByteIdx s).status2 = s.status2 := rfl
@[simp] theorem clearByteIdx_payload : (clearByteIdx s).payload = s.payload := rfl
@[simp] theorem clearByteIdx_extValid : (clearByteIdx s).extValid = s.extValid := rfl
@[simp] theorem clearByteIdx_dresp : (clearByteIdx s).dresp = s.dresp := rfl
@[simp] theorem clearByteIdx_pollCnt : (clearByteIdx s).pollCnt = s.pollCnt := rfl
@[simp] theorem clearByteIdx_retryCnt : (clearByteIdx s).retryCnt = s.retryCnt := rfl
@[simp] theorem clearByteIdx_acmdCnt : (clearByteIdx s).acmdCnt = s.acmdCnt := rfl
@[simp] theorem clearByteIdx_busyCnt : (clearByteIdx s).busyCnt = s.busyCnt := rfl
@[simp] theorem clearByteIdx_tokCnt : (clearByteIdx s).tokCnt = s.tokCnt := rfl
@[simp] theorem clearByteIdx_byteIdx : (clearByteIdx s).byteIdx = 0 := rfl
@[simp] theorem clearByteIdx_capPending : (clearByteIdx s).capPending = s.capPending := rfl
@[simp] theorem clearByteIdx_buf : (clearByteIdx s).buf = s.buf := rfl
@[simp] theorem clearByteIdx_seq : (clearByteIdx s).seq = s.seq := rfl
@[simp] theorem clearByteIdx_trace : (clearByteIdx s).trace = s.trace := rfl
@[simp] theorem clearByteIdx_params : (clearByteIdx s).params = s.params := rfl
@[simp] theorem clearByteIdx_hostQ : (clearByteIdx s).hostQ = s.hostQ := rfl
@[simp] theorem clearByteIdx_env : (clearByteIdx s).env = s.env := rfl
@[simp] theorem clearByteIdx_envDrawn : (clearByteIdx s).envDrawn = s.envDrawn := rfl
end clearByteIdx

section countByte
variable (s : State)
@[simp] theorem countByte_cs : (countByte s).cs = s.cs := rfl
@[simp] theorem countByte_phase : (countByte s).phase = s.phase := rfl
@[simp] theorem countByte_failReason : (countByte s).failReason = s.failReason := rfl
@[simp] theorem countByte_busy : (countByte s).busy = s.busy := rfl
@[simp] theorem countByte_done : (countByte s).done = s.done := rfl
@[simp] theorem countByte_resCode : (countByte s).resCode = s.resCode := rfl
@[simp] theorem countByte_resInfo : (countByte s).resInfo = s.resInfo := rfl
@[simp] theorem countByte_op : (countByte s).op = s.op := rfl
@[simp] theorem countByte_index : (countByte s).index = s.index := rfl
@[simp] theorem countByte_addr : (countByte s).addr = s.addr := rfl
@[simp] theorem countByte_frame : (countByte s).frame = s.frame := rfl
@[simp] theorem countByte_tokShape : (countByte s).tokShape = s.tokShape := rfl
@[simp] theorem countByte_status : (countByte s).status = s.status := rfl
@[simp] theorem countByte_status2 : (countByte s).status2 = s.status2 := rfl
@[simp] theorem countByte_payload : (countByte s).payload = s.payload := rfl
@[simp] theorem countByte_extValid : (countByte s).extValid = s.extValid := rfl
@[simp] theorem countByte_dresp : (countByte s).dresp = s.dresp := rfl
@[simp] theorem countByte_pollCnt : (countByte s).pollCnt = s.pollCnt := rfl
@[simp] theorem countByte_retryCnt : (countByte s).retryCnt = s.retryCnt := rfl
@[simp] theorem countByte_acmdCnt : (countByte s).acmdCnt = s.acmdCnt := rfl
@[simp] theorem countByte_busyCnt : (countByte s).busyCnt = s.busyCnt := rfl
@[simp] theorem countByte_tokCnt : (countByte s).tokCnt = s.tokCnt := rfl
@[simp] theorem countByte_byteIdx : (countByte s).byteIdx = s.byteIdx + 1 := rfl
@[simp] theorem countByte_capPending : (countByte s).capPending = s.capPending := rfl
@[simp] theorem countByte_buf : (countByte s).buf = s.buf := rfl
@[simp] theorem countByte_seq : (countByte s).seq = s.seq := rfl
@[simp] theorem countByte_trace : (countByte s).trace = s.trace := rfl
@[simp] theorem countByte_params : (countByte s).params = s.params := rfl
@[simp] theorem countByte_hostQ : (countByte s).hostQ = s.hostQ := rfl
@[simp] theorem countByte_env : (countByte s).env = s.env := rfl
@[simp] theorem countByte_envDrawn : (countByte s).envDrawn = s.envDrawn := rfl
end countByte

section beginReader
variable (s : State)
@[simp] theorem beginReader_cs : (beginReader s).cs = s.cs := rfl
@[simp] theorem beginReader_phase : (beginReader s).phase = s.phase := rfl
@[simp] theorem beginReader_failReason : (beginReader s).failReason = s.failReason := rfl
@[simp] theorem beginReader_busy : (beginReader s).busy = s.busy := rfl
@[simp] theorem beginReader_done : (beginReader s).done = s.done := rfl
@[simp] theorem beginReader_resCode : (beginReader s).resCode = s.resCode := rfl
@[simp] theorem beginReader_resInfo : (beginReader s).resInfo = s.resInfo := rfl
@[simp] theorem beginReader_op : (beginReader s).op = s.op := rfl
@[simp] theorem beginReader_index : (beginReader s).index = s.index := rfl
@[simp] theorem beginReader_addr : (beginReader s).addr = s.addr := rfl
@[simp] theorem beginReader_frame : (beginReader s).frame = s.frame := rfl
@[simp] theorem beginReader_tokShape : (beginReader s).tokShape = s.tokShape := rfl
@[simp] theorem beginReader_status : (beginReader s).status = s.status := rfl
@[simp] theorem beginReader_status2 : (beginReader s).status2 = s.status2 := rfl
@[simp] theorem beginReader_payload : (beginReader s).payload = s.payload := rfl
@[simp] theorem beginReader_extValid : (beginReader s).extValid = s.extValid := rfl
@[simp] theorem beginReader_dresp : (beginReader s).dresp = s.dresp := rfl
@[simp] theorem beginReader_pollCnt : (beginReader s).pollCnt = 0 := rfl
@[simp] theorem beginReader_retryCnt : (beginReader s).retryCnt = s.retryCnt := rfl
@[simp] theorem beginReader_acmdCnt : (beginReader s).acmdCnt = s.acmdCnt := rfl
@[simp] theorem beginReader_busyCnt : (beginReader s).busyCnt = s.busyCnt := rfl
@[simp] theorem beginReader_tokCnt : (beginReader s).tokCnt = s.tokCnt := rfl
@[simp] theorem beginReader_byteIdx : (beginReader s).byteIdx = s.byteIdx := rfl
@[simp] theorem beginReader_capPending : (beginReader s).capPending = s.capPending := rfl
@[simp] theorem beginReader_buf : (beginReader s).buf = s.buf := rfl
@[simp] theorem beginReader_seq : (beginReader s).seq = s.seq.afterSend := rfl
@[simp] theorem beginReader_trace : (beginReader s).trace = s.trace := rfl
@[simp] theorem beginReader_params : (beginReader s).params = s.params := rfl
@[simp] theorem beginReader_hostQ : (beginReader s).hostQ = s.hostQ := rfl
@[simp] theorem beginReader_env : (beginReader s).env = s.env := rfl
@[simp] theorem beginReader_envDrawn : (beginReader s).envDrawn = s.envDrawn := rfl
end beginReader

section deliver
variable (c : ResCode) (s : State)
@[simp] theorem deliver_cs : (deliver c s).cs = s.cs := rfl
@[simp] theorem deliver_phase : (deliver c s).phase = s.phase := rfl
@[simp] theorem deliver_failReason : (deliver c s).failReason = s.failReason := rfl
@[simp] theorem deliver_busy : (deliver c s).busy = false := rfl
@[simp] theorem deliver_done : (deliver c s).done = true := rfl
@[simp] theorem deliver_resCode : (deliver c s).resCode = c := rfl
@[simp] theorem deliver_resInfo : (deliver c s).resInfo = s.resInfo := rfl
@[simp] theorem deliver_op : (deliver c s).op = s.op := rfl
@[simp] theorem deliver_index : (deliver c s).index = s.index := rfl
@[simp] theorem deliver_addr : (deliver c s).addr = s.addr := rfl
@[simp] theorem deliver_frame : (deliver c s).frame = s.frame := rfl
@[simp] theorem deliver_tokShape : (deliver c s).tokShape = s.tokShape := rfl
@[simp] theorem deliver_status : (deliver c s).status = s.status := rfl
@[simp] theorem deliver_status2 : (deliver c s).status2 = s.status2 := rfl
@[simp] theorem deliver_payload : (deliver c s).payload = s.payload := rfl
@[simp] theorem deliver_extValid : (deliver c s).extValid = s.extValid := rfl
@[simp] theorem deliver_dresp : (deliver c s).dresp = s.dresp := rfl
@[simp] theorem deliver_pollCnt : (deliver c s).pollCnt = s.pollCnt := rfl
@[simp] theorem deliver_retryCnt : (deliver c s).retryCnt = s.retryCnt := rfl
@[simp] theorem deliver_acmdCnt : (deliver c s).acmdCnt = s.acmdCnt := rfl
@[simp] theorem deliver_busyCnt : (deliver c s).busyCnt = s.busyCnt := rfl
@[simp] theorem deliver_tokCnt : (deliver c s).tokCnt = s.tokCnt := rfl
@[simp] theorem deliver_byteIdx : (deliver c s).byteIdx = s.byteIdx := rfl
@[simp] theorem deliver_capPending : (deliver c s).capPending = s.capPending := rfl
@[simp] theorem deliver_buf : (deliver c s).buf = s.buf := rfl
@[simp] theorem deliver_seq : (deliver c s).seq = .idle := rfl
@[simp] theorem deliver_trace : (deliver c s).trace = s.trace := rfl
@[simp] theorem deliver_params : (deliver c s).params = s.params := rfl
@[simp] theorem deliver_hostQ : (deliver c s).hostQ = s.hostQ := rfl
@[simp] theorem deliver_env : (deliver c s).env = s.env := rfl
@[simp] theorem deliver_envDrawn : (deliver c s).envDrawn = s.envDrawn := rfl
end deliver

section failSession
variable (r : Reason) (s : State)
@[simp] theorem failSession_cs : (failSession r s).cs = s.cs := rfl
@[simp] theorem failSession_phase : (failSession r s).phase = .failed := rfl
@[simp] theorem failSession_failReason : (failSession r s).failReason = r.code := rfl
@[simp] theorem failSession_busy : (failSession r s).busy = s.busy := rfl
@[simp] theorem failSession_done : (failSession r s).done = s.done := rfl
@[simp] theorem failSession_resCode : (failSession r s).resCode = s.resCode := rfl
@[simp] theorem failSession_resInfo : (failSession r s).resInfo = s.resInfo := rfl
@[simp] theorem failSession_op : (failSession r s).op = s.op := rfl
@[simp] theorem failSession_index : (failSession r s).index = s.index := rfl
@[simp] theorem failSession_addr : (failSession r s).addr = s.addr := rfl
@[simp] theorem failSession_frame : (failSession r s).frame = s.frame := rfl
@[simp] theorem failSession_tokShape : (failSession r s).tokShape = s.tokShape := rfl
@[simp] theorem failSession_status : (failSession r s).status = s.status := rfl
@[simp] theorem failSession_status2 : (failSession r s).status2 = s.status2 := rfl
@[simp] theorem failSession_payload : (failSession r s).payload = s.payload := rfl
@[simp] theorem failSession_extValid : (failSession r s).extValid = s.extValid := rfl
@[simp] theorem failSession_dresp : (failSession r s).dresp = s.dresp := rfl
@[simp] theorem failSession_pollCnt : (failSession r s).pollCnt = s.pollCnt := rfl
@[simp] theorem failSession_retryCnt : (failSession r s).retryCnt = s.retryCnt := rfl
@[simp] theorem failSession_acmdCnt : (failSession r s).acmdCnt = s.acmdCnt := rfl
@[simp] theorem failSession_busyCnt : (failSession r s).busyCnt = s.busyCnt := rfl
@[simp] theorem failSession_tokCnt : (failSession r s).tokCnt = s.tokCnt := rfl
@[simp] theorem failSession_byteIdx : (failSession r s).byteIdx = s.byteIdx := rfl
@[simp] theorem failSession_capPending : (failSession r s).capPending = s.capPending := rfl
@[simp] theorem failSession_buf : (failSession r s).buf = s.buf := rfl
@[simp] theorem failSession_seq : (failSession r s).seq = s.seq := rfl
@[simp] theorem failSession_trace : (failSession r s).trace = s.trace := rfl
@[simp] theorem failSession_params : (failSession r s).params = s.params := rfl
@[simp] theorem failSession_hostQ : (failSession r s).hostQ = s.hostQ := rfl
@[simp] theorem failSession_env : (failSession r s).env = s.env := rfl
@[simp] theorem failSession_envDrawn : (failSession r s).envDrawn = s.envDrawn := rfl
end failSession

section setVersion
variable (v : VersionClass) (s : State)
@[simp] theorem setVersion_cs : (setVersion v s).cs = { s.cs with versionClass := v } := rfl
@[simp] theorem setVersion_phase : (setVersion v s).phase = s.phase := rfl
@[simp] theorem setVersion_failReason : (setVersion v s).failReason = s.failReason := rfl
@[simp] theorem setVersion_busy : (setVersion v s).busy = s.busy := rfl
@[simp] theorem setVersion_done : (setVersion v s).done = s.done := rfl
@[simp] theorem setVersion_resCode : (setVersion v s).resCode = s.resCode := rfl
@[simp] theorem setVersion_resInfo : (setVersion v s).resInfo = s.resInfo := rfl
@[simp] theorem setVersion_op : (setVersion v s).op = s.op := rfl
@[simp] theorem setVersion_index : (setVersion v s).index = s.index := rfl
@[simp] theorem setVersion_addr : (setVersion v s).addr = s.addr := rfl
@[simp] theorem setVersion_frame : (setVersion v s).frame = s.frame := rfl
@[simp] theorem setVersion_tokShape : (setVersion v s).tokShape = s.tokShape := rfl
@[simp] theorem setVersion_status : (setVersion v s).status = s.status := rfl
@[simp] theorem setVersion_status2 : (setVersion v s).status2 = s.status2 := rfl
@[simp] theorem setVersion_payload : (setVersion v s).payload = s.payload := rfl
@[simp] theorem setVersion_extValid : (setVersion v s).extValid = s.extValid := rfl
@[simp] theorem setVersion_dresp : (setVersion v s).dresp = s.dresp := rfl
@[simp] theorem setVersion_pollCnt : (setVersion v s).pollCnt = s.pollCnt := rfl
@[simp] theorem setVersion_retryCnt : (setVersion v s).retryCnt = s.retryCnt := rfl
@[simp] theorem setVersion_acmdCnt : (setVersion v s).acmdCnt = s.acmdCnt := rfl
@[simp] theorem setVersion_busyCnt : (setVersion v s).busyCnt = s.busyCnt := rfl
@[simp] theorem setVersion_tokCnt : (setVersion v s).tokCnt = s.tokCnt := rfl
@[simp] theorem setVersion_byteIdx : (setVersion v s).byteIdx = s.byteIdx := rfl
@[simp] theorem setVersion_capPending : (setVersion v s).capPending = s.capPending := rfl
@[simp] theorem setVersion_buf : (setVersion v s).buf = s.buf := rfl
@[simp] theorem setVersion_seq : (setVersion v s).seq = s.seq := rfl
@[simp] theorem setVersion_trace : (setVersion v s).trace = s.trace := rfl
@[simp] theorem setVersion_params : (setVersion v s).params = s.params := rfl
@[simp] theorem setVersion_hostQ : (setVersion v s).hostQ = s.hostQ := rfl
@[simp] theorem setVersion_env : (setVersion v s).env = s.env := rfl
@[simp] theorem setVersion_envDrawn : (setVersion v s).envDrawn = s.envDrawn := rfl
end setVersion

section pollOnce
variable (b : Byte) (s : State)
@[simp] theorem pollOnce_cs : (pollOnce b s).cs = s.cs := rfl
@[simp] theorem pollOnce_phase : (pollOnce b s).phase = s.phase := rfl
@[simp] theorem pollOnce_failReason : (pollOnce b s).failReason = s.failReason := rfl
@[simp] theorem pollOnce_busy : (pollOnce b s).busy = s.busy := rfl
@[simp] theorem pollOnce_done : (pollOnce b s).done = s.done := rfl
@[simp] theorem pollOnce_resCode : (pollOnce b s).resCode = s.resCode := rfl
@[simp] theorem pollOnce_resInfo : (pollOnce b s).resInfo = s.resInfo := rfl
@[simp] theorem pollOnce_op : (pollOnce b s).op = s.op := rfl
@[simp] theorem pollOnce_index : (pollOnce b s).index = s.index := rfl
@[simp] theorem pollOnce_addr : (pollOnce b s).addr = s.addr := rfl
@[simp] theorem pollOnce_frame : (pollOnce b s).frame = s.frame := rfl
@[simp] theorem pollOnce_tokShape : (pollOnce b s).tokShape = s.tokShape := rfl
@[simp] theorem pollOnce_status : (pollOnce b s).status = s.status := rfl
@[simp] theorem pollOnce_status2 : (pollOnce b s).status2 = s.status2 := rfl
@[simp] theorem pollOnce_payload : (pollOnce b s).payload = s.payload := rfl
@[simp] theorem pollOnce_extValid : (pollOnce b s).extValid = s.extValid := rfl
@[simp] theorem pollOnce_dresp : (pollOnce b s).dresp = s.dresp := rfl
@[simp] theorem pollOnce_pollCnt : (pollOnce b s).pollCnt = s.pollCnt + 1 := rfl
@[simp] theorem pollOnce_retryCnt : (pollOnce b s).retryCnt = s.retryCnt := rfl
@[simp] theorem pollOnce_acmdCnt : (pollOnce b s).acmdCnt = s.acmdCnt := rfl
@[simp] theorem pollOnce_busyCnt : (pollOnce b s).busyCnt = s.busyCnt := rfl
@[simp] theorem pollOnce_tokCnt : (pollOnce b s).tokCnt = s.tokCnt := rfl
@[simp] theorem pollOnce_byteIdx : (pollOnce b s).byteIdx = s.byteIdx := rfl
@[simp] theorem pollOnce_capPending : (pollOnce b s).capPending = s.capPending := rfl
@[simp] theorem pollOnce_buf : (pollOnce b s).buf = s.buf := rfl
@[simp] theorem pollOnce_seq : (pollOnce b s).seq = s.seq := rfl
@[simp] theorem pollOnce_trace : (pollOnce b s).trace = s.trace ++ [.x Config.fillByte b] := rfl
@[simp] theorem pollOnce_params : (pollOnce b s).params = s.params := rfl
@[simp] theorem pollOnce_hostQ : (pollOnce b s).hostQ = s.hostQ := rfl
@[simp] theorem pollOnce_env : (pollOnce b s).env = s.env := rfl
@[simp] theorem pollOnce_envDrawn : (pollOnce b s).envDrawn = s.envDrawn := rfl
end pollOnce

section pollStatus
variable (st : BitVec 7) (s : State)
@[simp] theorem pollStatus_cs : (pollStatus st s).cs = s.cs := rfl
@[simp] theorem pollStatus_phase : (pollStatus st s).phase = s.phase := rfl
@[simp] theorem pollStatus_failReason : (pollStatus st s).failReason = s.failReason := rfl
@[simp] theorem pollStatus_busy : (pollStatus st s).busy = s.busy := rfl
@[simp] theorem pollStatus_done : (pollStatus st s).done = s.done := rfl
@[simp] theorem pollStatus_resCode : (pollStatus st s).resCode = s.resCode := rfl
@[simp] theorem pollStatus_resInfo : (pollStatus st s).resInfo = s.resInfo := rfl
@[simp] theorem pollStatus_op : (pollStatus st s).op = s.op := rfl
@[simp] theorem pollStatus_index : (pollStatus st s).index = s.index := rfl
@[simp] theorem pollStatus_addr : (pollStatus st s).addr = s.addr := rfl
@[simp] theorem pollStatus_frame : (pollStatus st s).frame = s.frame := rfl
@[simp] theorem pollStatus_tokShape : (pollStatus st s).tokShape = s.tokShape := rfl
@[simp] theorem pollStatus_status : (pollStatus st s).status = statusByte st := rfl
@[simp] theorem pollStatus_status2 : (pollStatus st s).status2 = s.status2 := rfl
@[simp] theorem pollStatus_payload : (pollStatus st s).payload = s.payload := rfl
@[simp] theorem pollStatus_extValid : (pollStatus st s).extValid = s.extValid := rfl
@[simp] theorem pollStatus_dresp : (pollStatus st s).dresp = s.dresp := rfl
@[simp] theorem pollStatus_pollCnt : (pollStatus st s).pollCnt = s.pollCnt + 1 := rfl
@[simp] theorem pollStatus_retryCnt : (pollStatus st s).retryCnt = s.retryCnt := rfl
@[simp] theorem pollStatus_acmdCnt : (pollStatus st s).acmdCnt = s.acmdCnt := rfl
@[simp] theorem pollStatus_busyCnt : (pollStatus st s).busyCnt = s.busyCnt := rfl
@[simp] theorem pollStatus_tokCnt : (pollStatus st s).tokCnt = s.tokCnt := rfl
@[simp] theorem pollStatus_byteIdx : (pollStatus st s).byteIdx = s.byteIdx := rfl
@[simp] theorem pollStatus_capPending : (pollStatus st s).capPending = s.capPending := rfl
@[simp] theorem pollStatus_buf : (pollStatus st s).buf = s.buf := rfl
@[simp] theorem pollStatus_seq : (pollStatus st s).seq = s.seq := rfl
@[simp] theorem pollStatus_trace : (pollStatus st s).trace = s.trace ++ [.x Config.fillByte (statusByte st)] := rfl
@[simp] theorem pollStatus_params : (pollStatus st s).params = s.params := rfl
@[simp] theorem pollStatus_hostQ : (pollStatus st s).hostQ = s.hostQ := rfl
@[simp] theorem pollStatus_env : (pollStatus st s).env = s.env := rfl
@[simp] theorem pollStatus_envDrawn : (pollStatus st s).envDrawn = s.envDrawn := rfl
end pollStatus

section setToken
variable (sh : Shape) (e : Bool) (s : State)
@[simp] theorem setToken_cs : (setToken sh e s).cs = s.cs := rfl
@[simp] theorem setToken_phase : (setToken sh e s).phase = s.phase := rfl
@[simp] theorem setToken_failReason : (setToken sh e s).failReason = s.failReason := rfl
@[simp] theorem setToken_busy : (setToken sh e s).busy = s.busy := rfl
@[simp] theorem setToken_done : (setToken sh e s).done = s.done := rfl
@[simp] theorem setToken_resCode : (setToken sh e s).resCode = s.resCode := rfl
@[simp] theorem setToken_resInfo : (setToken sh e s).resInfo = s.resInfo := rfl
@[simp] theorem setToken_op : (setToken sh e s).op = s.op := rfl
@[simp] theorem setToken_index : (setToken sh e s).index = s.index := rfl
@[simp] theorem setToken_addr : (setToken sh e s).addr = s.addr := rfl
@[simp] theorem setToken_frame : (setToken sh e s).frame = s.frame := rfl
@[simp] theorem setToken_tokShape : (setToken sh e s).tokShape = sh := rfl
@[simp] theorem setToken_status : (setToken sh e s).status = s.status := rfl
@[simp] theorem setToken_status2 : (setToken sh e s).status2 = s.status2 := rfl
@[simp] theorem setToken_payload : (setToken sh e s).payload = s.payload := rfl
@[simp] theorem setToken_extValid : (setToken sh e s).extValid = e := rfl
@[simp] theorem setToken_dresp : (setToken sh e s).dresp = s.dresp := rfl
@[simp] theorem setToken_pollCnt : (setToken sh e s).pollCnt = s.pollCnt := rfl
@[simp] theorem setToken_retryCnt : (setToken sh e s).retryCnt = s.retryCnt := rfl
@[simp] theorem setToken_acmdCnt : (setToken sh e s).acmdCnt = s.acmdCnt := rfl
@[simp] theorem setToken_busyCnt : (setToken sh e s).busyCnt = s.busyCnt := rfl
@[simp] theorem setToken_tokCnt : (setToken sh e s).tokCnt = s.tokCnt := rfl
@[simp] theorem setToken_byteIdx : (setToken sh e s).byteIdx = s.byteIdx := rfl
@[simp] theorem setToken_capPending : (setToken sh e s).capPending = s.capPending := rfl
@[simp] theorem setToken_buf : (setToken sh e s).buf = s.buf := rfl
@[simp] theorem setToken_seq : (setToken sh e s).seq = s.seq := rfl
@[simp] theorem setToken_trace : (setToken sh e s).trace = s.trace := rfl
@[simp] theorem setToken_params : (setToken sh e s).params = s.params := rfl
@[simp] theorem setToken_hostQ : (setToken sh e s).hostQ = s.hostQ := rfl
@[simp] theorem setToken_env : (setToken sh e s).env = s.env := rfl
@[simp] theorem setToken_envDrawn : (setToken sh e s).envDrawn = s.envDrawn := rfl
end setToken

section busyPoll
variable (b : Byte) (s : State)
@[simp] theorem busyPoll_cs : (busyPoll b s).cs = s.cs := rfl
@[simp] theorem busyPoll_phase : (busyPoll b s).phase = s.phase := rfl
@[simp] theorem busyPoll_failReason : (busyPoll b s).failReason = s.failReason := rfl
@[simp] theorem busyPoll_busy : (busyPoll b s).busy = s.busy := rfl
@[simp] theorem busyPoll_done : (busyPoll b s).done = s.done := rfl
@[simp] theorem busyPoll_resCode : (busyPoll b s).resCode = s.resCode := rfl
@[simp] theorem busyPoll_resInfo : (busyPoll b s).resInfo = s.resInfo := rfl
@[simp] theorem busyPoll_op : (busyPoll b s).op = s.op := rfl
@[simp] theorem busyPoll_index : (busyPoll b s).index = s.index := rfl
@[simp] theorem busyPoll_addr : (busyPoll b s).addr = s.addr := rfl
@[simp] theorem busyPoll_frame : (busyPoll b s).frame = s.frame := rfl
@[simp] theorem busyPoll_tokShape : (busyPoll b s).tokShape = s.tokShape := rfl
@[simp] theorem busyPoll_status : (busyPoll b s).status = s.status := rfl
@[simp] theorem busyPoll_status2 : (busyPoll b s).status2 = s.status2 := rfl
@[simp] theorem busyPoll_payload : (busyPoll b s).payload = s.payload := rfl
@[simp] theorem busyPoll_extValid : (busyPoll b s).extValid = s.extValid := rfl
@[simp] theorem busyPoll_dresp : (busyPoll b s).dresp = s.dresp := rfl
@[simp] theorem busyPoll_pollCnt : (busyPoll b s).pollCnt = s.pollCnt := rfl
@[simp] theorem busyPoll_retryCnt : (busyPoll b s).retryCnt = s.retryCnt := rfl
@[simp] theorem busyPoll_acmdCnt : (busyPoll b s).acmdCnt = s.acmdCnt := rfl
@[simp] theorem busyPoll_busyCnt : (busyPoll b s).busyCnt = s.busyCnt + 1 := rfl
@[simp] theorem busyPoll_tokCnt : (busyPoll b s).tokCnt = s.tokCnt := rfl
@[simp] theorem busyPoll_byteIdx : (busyPoll b s).byteIdx = s.byteIdx := rfl
@[simp] theorem busyPoll_capPending : (busyPoll b s).capPending = s.capPending := rfl
@[simp] theorem busyPoll_buf : (busyPoll b s).buf = s.buf := rfl
@[simp] theorem busyPoll_seq : (busyPoll b s).seq = s.seq := rfl
@[simp] theorem busyPoll_trace : (busyPoll b s).trace = s.trace ++ [.x Config.fillByte b] := rfl
@[simp] theorem busyPoll_params : (busyPoll b s).params = s.params := rfl
@[simp] theorem busyPoll_hostQ : (busyPoll b s).hostQ = s.hostQ := rfl
@[simp] theorem busyPoll_env : (busyPoll b s).env = s.env := rfl
@[simp] theorem busyPoll_envDrawn : (busyPoll b s).envDrawn = s.envDrawn := rfl
end busyPoll

section beginBusyWait
variable (s : State)
@[simp] theorem beginBusyWait_cs : (beginBusyWait s).cs = s.cs := rfl
@[simp] theorem beginBusyWait_phase : (beginBusyWait s).phase = s.phase := rfl
@[simp] theorem beginBusyWait_failReason : (beginBusyWait s).failReason = s.failReason := rfl
@[simp] theorem beginBusyWait_busy : (beginBusyWait s).busy = s.busy := rfl
@[simp] theorem beginBusyWait_done : (beginBusyWait s).done = s.done := rfl
@[simp] theorem beginBusyWait_resCode : (beginBusyWait s).resCode = s.resCode := rfl
@[simp] theorem beginBusyWait_resInfo : (beginBusyWait s).resInfo = s.resInfo := rfl
@[simp] theorem beginBusyWait_op : (beginBusyWait s).op = s.op := rfl
@[simp] theorem beginBusyWait_index : (beginBusyWait s).index = s.index := rfl
@[simp] theorem beginBusyWait_addr : (beginBusyWait s).addr = s.addr := rfl
@[simp] theorem beginBusyWait_frame : (beginBusyWait s).frame = s.frame := rfl
@[simp] theorem beginBusyWait_tokShape : (beginBusyWait s).tokShape = s.tokShape := rfl
@[simp] theorem beginBusyWait_status : (beginBusyWait s).status = s.status := rfl
@[simp] theorem beginBusyWait_status2 : (beginBusyWait s).status2 = s.status2 := rfl
@[simp] theorem beginBusyWait_payload : (beginBusyWait s).payload = s.payload := rfl
@[simp] theorem beginBusyWait_extValid : (beginBusyWait s).extValid = s.extValid := rfl
@[simp] theorem beginBusyWait_dresp : (beginBusyWait s).dresp = s.dresp := rfl
@[simp] theorem beginBusyWait_pollCnt : (beginBusyWait s).pollCnt = s.pollCnt := rfl
@[simp] theorem beginBusyWait_retryCnt : (beginBusyWait s).retryCnt = s.retryCnt := rfl
@[simp] theorem beginBusyWait_acmdCnt : (beginBusyWait s).acmdCnt = s.acmdCnt := rfl
@[simp] theorem beginBusyWait_busyCnt : (beginBusyWait s).busyCnt = 0 := rfl
@[simp] theorem beginBusyWait_tokCnt : (beginBusyWait s).tokCnt = s.tokCnt := rfl
@[simp] theorem beginBusyWait_byteIdx : (beginBusyWait s).byteIdx = s.byteIdx := rfl
@[simp] theorem beginBusyWait_capPending : (beginBusyWait s).capPending = s.capPending := rfl
@[simp] theorem beginBusyWait_buf : (beginBusyWait s).buf = s.buf := rfl
@[simp] theorem beginBusyWait_seq : (beginBusyWait s).seq = s.seq := rfl
@[simp] theorem beginBusyWait_trace : (beginBusyWait s).trace = s.trace := rfl
@[simp] theorem beginBusyWait_params : (beginBusyWait s).params = s.params := rfl
@[simp] theorem beginBusyWait_hostQ : (beginBusyWait s).hostQ = s.hostQ := rfl
@[simp] theorem beginBusyWait_env : (beginBusyWait s).env = s.env := rfl
@[simp] theorem beginBusyWait_envDrawn : (beginBusyWait s).envDrawn = s.envDrawn := rfl
end beginBusyWait

section accept
variable (c : BitVec 2) (s : State)
@[simp] theorem accept_cs : (accept c s).cs = s.cs := rfl
@[simp] theorem accept_phase : (accept c s).phase = s.phase := rfl
@[simp] theorem accept_failReason : (accept c s).failReason = s.failReason := rfl
@[simp] theorem accept_busy : (accept c s).busy = true := rfl
@[simp] theorem accept_done : (accept c s).done = false := rfl
@[simp] theorem accept_resCode : (accept c s).resCode = s.resCode := rfl
@[simp] theorem accept_resInfo : (accept c s).resInfo = s.resInfo := rfl
@[simp] theorem accept_op : (accept c s).op = c := rfl
@[simp] theorem accept_index : (accept c s).index = s.index := rfl
@[simp] theorem accept_addr : (accept c s).addr = s.addr := rfl
@[simp] theorem accept_frame : (accept c s).frame = s.frame := rfl
@[simp] theorem accept_tokShape : (accept c s).tokShape = s.tokShape := rfl
@[simp] theorem accept_status : (accept c s).status = s.status := rfl
@[simp] theorem accept_status2 : (accept c s).status2 = s.status2 := rfl
@[simp] theorem accept_payload : (accept c s).payload = s.payload := rfl
@[simp] theorem accept_extValid : (accept c s).extValid = s.extValid := rfl
@[simp] theorem accept_dresp : (accept c s).dresp = s.dresp := rfl
@[simp] theorem accept_pollCnt : (accept c s).pollCnt = s.pollCnt := rfl
@[simp] theorem accept_retryCnt : (accept c s).retryCnt = s.retryCnt := rfl
@[simp] theorem accept_acmdCnt : (accept c s).acmdCnt = s.acmdCnt := rfl
@[simp] theorem accept_busyCnt : (accept c s).busyCnt = s.busyCnt := rfl
@[simp] theorem accept_tokCnt : (accept c s).tokCnt = s.tokCnt := rfl
@[simp] theorem accept_byteIdx : (accept c s).byteIdx = s.byteIdx := rfl
@[simp] theorem accept_capPending : (accept c s).capPending = s.capPending := rfl
@[simp] theorem accept_buf : (accept c s).buf = s.buf := rfl
@[simp] theorem accept_seq : (accept c s).seq = s.seq := rfl
@[simp] theorem accept_trace : (accept c s).trace = s.trace := rfl
@[simp] theorem accept_params : (accept c s).params = s.params := rfl
@[simp] theorem accept_hostQ : (accept c s).hostQ = s.hostQ := rfl
@[simp] theorem accept_env : (accept c s).env = s.env := rfl
@[simp] theorem accept_envDrawn : (accept c s).envDrawn = s.envDrawn := rfl
end accept

section freshSession
variable (s : State)
@[simp] theorem freshSession_cs : (freshSession s).cs = ⟨.unknown, .unknown, false⟩ := rfl
@[simp] theorem freshSession_phase : (freshSession s).phase = .uninit := rfl
@[simp] theorem freshSession_failReason : (freshSession s).failReason = s.failReason := rfl
@[simp] theorem freshSession_busy : (freshSession s).busy = s.busy := rfl
@[simp] theorem freshSession_done : (freshSession s).done = s.done := rfl
@[simp] theorem freshSession_resCode : (freshSession s).resCode = s.resCode := rfl
@[simp] theorem freshSession_resInfo : (freshSession s).resInfo = s.resInfo := rfl
@[simp] theorem freshSession_op : (freshSession s).op = s.op := rfl
@[simp] theorem freshSession_index : (freshSession s).index = s.index := rfl
@[simp] theorem freshSession_addr : (freshSession s).addr = s.addr := rfl
@[simp] theorem freshSession_frame : (freshSession s).frame = s.frame := rfl
@[simp] theorem freshSession_tokShape : (freshSession s).tokShape = s.tokShape := rfl
@[simp] theorem freshSession_status : (freshSession s).status = s.status := rfl
@[simp] theorem freshSession_status2 : (freshSession s).status2 = s.status2 := rfl
@[simp] theorem freshSession_payload : (freshSession s).payload = s.payload := rfl
@[simp] theorem freshSession_extValid : (freshSession s).extValid = s.extValid := rfl
@[simp] theorem freshSession_dresp : (freshSession s).dresp = s.dresp := rfl
@[simp] theorem freshSession_pollCnt : (freshSession s).pollCnt = s.pollCnt := rfl
@[simp] theorem freshSession_retryCnt : (freshSession s).retryCnt = s.retryCnt := rfl
@[simp] theorem freshSession_acmdCnt : (freshSession s).acmdCnt = s.acmdCnt := rfl
@[simp] theorem freshSession_busyCnt : (freshSession s).busyCnt = s.busyCnt := rfl
@[simp] theorem freshSession_tokCnt : (freshSession s).tokCnt = s.tokCnt := rfl
@[simp] theorem freshSession_byteIdx : (freshSession s).byteIdx = s.byteIdx := rfl
@[simp] theorem freshSession_capPending : (freshSession s).capPending = s.capPending := rfl
@[simp] theorem freshSession_buf : (freshSession s).buf = s.buf := rfl
@[simp] theorem freshSession_seq : (freshSession s).seq = s.seq := rfl
@[simp] theorem freshSession_trace : (freshSession s).trace = s.trace := rfl
@[simp] theorem freshSession_params : (freshSession s).params = s.params := rfl
@[simp] theorem freshSession_hostQ : (freshSession s).hostQ = s.hostQ := rfl
@[simp] theorem freshSession_env : (freshSession s).env = s.env := rfl
@[simp] theorem freshSession_envDrawn : (freshSession s).envDrawn = s.envDrawn := rfl
end freshSession

section rejectUninit
variable (s : State)
@[simp] theorem rejectUninit_cs : (rejectUninit s).cs = s.cs := rfl
@[simp] theorem rejectUninit_phase : (rejectUninit s).phase = s.phase := rfl
@[simp] theorem rejectUninit_failReason : (rejectUninit s).failReason = s.failReason := rfl
@[simp] theorem rejectUninit_busy : (rejectUninit s).busy = s.busy := rfl
@[simp] theorem rejectUninit_done : (rejectUninit s).done = true := rfl
@[simp] theorem rejectUninit_resCode : (rejectUninit s).resCode = .notInitialized := rfl
@[simp] theorem rejectUninit_resInfo : (rejectUninit s).resInfo = s.resInfo := rfl
@[simp] theorem rejectUninit_op : (rejectUninit s).op = s.op := rfl
@[simp] theorem rejectUninit_index : (rejectUninit s).index = s.index := rfl
@[simp] theorem rejectUninit_addr : (rejectUninit s).addr = s.addr := rfl
@[simp] theorem rejectUninit_frame : (rejectUninit s).frame = s.frame := rfl
@[simp] theorem rejectUninit_tokShape : (rejectUninit s).tokShape = s.tokShape := rfl
@[simp] theorem rejectUninit_status : (rejectUninit s).status = s.status := rfl
@[simp] theorem rejectUninit_status2 : (rejectUninit s).status2 = s.status2 := rfl
@[simp] theorem rejectUninit_payload : (rejectUninit s).payload = s.payload := rfl
@[simp] theorem rejectUninit_extValid : (rejectUninit s).extValid = s.extValid := rfl
@[simp] theorem rejectUninit_dresp : (rejectUninit s).dresp = s.dresp := rfl
@[simp] theorem rejectUninit_pollCnt : (rejectUninit s).pollCnt = s.pollCnt := rfl
@[simp] theorem rejectUninit_retryCnt : (rejectUninit s).retryCnt = s.retryCnt := rfl
@[simp] theorem rejectUninit_acmdCnt : (rejectUninit s).acmdCnt = s.acmdCnt := rfl
@[simp] theorem rejectUninit_busyCnt : (rejectUninit s).busyCnt = s.busyCnt := rfl
@[simp] theorem rejectUninit_tokCnt : (rejectUninit s).tokCnt = s.tokCnt := rfl
@[simp] theorem rejectUninit_byteIdx : (rejectUninit s).byteIdx = s.byteIdx := rfl
@[simp] theorem rejectUninit_capPending : (rejectUninit s).capPending = s.capPending := rfl
@[simp] theorem rejectUninit_buf : (rejectUninit s).buf = s.buf := rfl
@[simp] theorem rejectUninit_seq : (rejectUninit s).seq = s.seq := rfl
@[simp] theorem rejectUninit_trace : (rejectUninit s).trace = s.trace := rfl
@[simp] theorem rejectUninit_params : (rejectUninit s).params = s.params := rfl
@[simp] theorem rejectUninit_hostQ : (rejectUninit s).hostQ = s.hostQ := rfl
@[simp] theorem rejectUninit_env : (rejectUninit s).env = s.env := rfl
@[simp] theorem rejectUninit_envDrawn : (rejectUninit s).envDrawn = s.envDrawn := rfl
end rejectUninit

section commitSession
variable (s : State)
@[simp] theorem commitSession_cs : (commitSession s).cs = { s.cs with capacityClass := .known s.capPending } := rfl
@[simp] theorem commitSession_phase : (commitSession s).phase = .ready := rfl
@[simp] theorem commitSession_failReason : (commitSession s).failReason = s.failReason := rfl
@[simp] theorem commitSession_busy : (commitSession s).busy = s.busy := rfl
@[simp] theorem commitSession_done : (commitSession s).done = s.done := rfl
@[simp] theorem commitSession_resCode : (commitSession s).resCode = s.resCode := rfl
@[simp] theorem commitSession_resInfo : (commitSession s).resInfo = s.resInfo := rfl
@[simp] theorem commitSession_op : (commitSession s).op = s.op := rfl
@[simp] theorem commitSession_index : (commitSession s).index = s.index := rfl
@[simp] theorem commitSession_addr : (commitSession s).addr = s.addr := rfl
@[simp] theorem commitSession_frame : (commitSession s).frame = s.frame := rfl
@[simp] theorem commitSession_tokShape : (commitSession s).tokShape = s.tokShape := rfl
@[simp] theorem commitSession_status : (commitSession s).status = s.status := rfl
@[simp] theorem commitSession_status2 : (commitSession s).status2 = s.status2 := rfl
@[simp] theorem commitSession_payload : (commitSession s).payload = s.payload := rfl
@[simp] theorem commitSession_extValid : (commitSession s).extValid = s.extValid := rfl
@[simp] theorem commitSession_dresp : (commitSession s).dresp = s.dresp := rfl
@[simp] theorem commitSession_pollCnt : (commitSession s).pollCnt = s.pollCnt := rfl
@[simp] theorem commitSession_retryCnt : (commitSession s).retryCnt = s.retryCnt := rfl
@[simp] theorem commitSession_acmdCnt : (commitSession s).acmdCnt = s.acmdCnt := rfl
@[simp] theorem commitSession_busyCnt : (commitSession s).busyCnt = s.busyCnt := rfl
@[simp] theorem commitSession_tokCnt : (commitSession s).tokCnt = s.tokCnt := rfl
@[simp] theorem commitSession_byteIdx : (commitSession s).byteIdx = s.byteIdx := rfl
@[simp] theorem commitSession_capPending : (commitSession s).capPending = s.capPending := rfl
@[simp] theorem commitSession_buf : (commitSession s).buf = s.buf := rfl
@[simp] theorem commitSession_seq : (commitSession s).seq = s.seq := rfl
@[simp] theorem commitSession_trace : (commitSession s).trace = s.trace := rfl
@[simp] theorem commitSession_params : (commitSession s).params = s.params := rfl
@[simp] theorem commitSession_hostQ : (commitSession s).hostQ = s.hostQ := rfl
@[simp] theorem commitSession_env : (commitSession s).env = s.env := rfl
@[simp] theorem commitSession_envDrawn : (commitSession s).envDrawn = s.envDrawn := rfl
end commitSession

end Sys2Proof.Machine
end

