-- ==== Sys2Proof/Laws/Env.lean ====
section
/-!
SUPPORT. What drawing, sending and receiving do, in closed form: one lemma per operation, cited instead of unfolding it.
-/

namespace Sys2Proof.Machine

@[simp] theorem envBytes_length (n : Nat) (s : State) : (envBytes n s).length = n := by
  simp [envBytes]

@[simp] theorem envBytes_zero (s : State) : envBytes 0 s = [] := by simp [envBytes]

@[simp] theorem afterDraws_zero (s : State) : afterDraws 0 s = s := by simp [afterDraws]

theorem draw_of_cons {s : State} {b : Byte} {rest : List Byte} (h : s.env = b :: rest) :
    draw s = (b, { s with env := rest }) := by simp [draw, h]

theorem draw_of_nil {s : State} (h : s.env = []) :
    draw s = (Config.envByte s.envDrawn, { s with envDrawn := s.envDrawn + 1 }) := by simp [draw, h]

/-- A draw changes nothing but the environment's own fields. -/
theorem draw_state (s : State) : (draw s).2 = afterDraws 1 s := by
  cases h : s.env with
  | nil => simp [draw, afterDraws, h]
  | cons b rest => simp [draw, afterDraws, h]

/-- The next answers, the first apart from the others. -/
theorem envBytes_succ (n : Nat) (s : State) : envBytes (n + 1) s = (draw s).1 :: envBytes n (draw s).2 := by
  cases h : s.env with
  | nil =>
    simp only [envBytes, draw_of_nil h, h, List.nil_append]
    rw [List.range_succ_eq_map]
    simp only [List.map_cons, List.map_map, List.take_succ_cons, Nat.add_zero]
    congr 2
    apply List.map_congr_left
    intro k _
    simp only [Function.comp_apply, Nat.succ_eq_add_one]
    congr 1
    omega
  | cons b rest =>
    simp only [envBytes, draw_of_cons h, h, List.cons_append, List.take_succ_cons]
    congr 1
    rw [List.range_succ, List.map_append]
    rw [← List.append_assoc, List.take_append_of_le_length (by simp)]

theorem afterDraws_succ (n : Nat) (s : State) : afterDraws (n + 1) s = afterDraws n (draw s).2 := by
  cases h : s.env with
  | nil =>
    simp only [afterDraws, draw_of_nil h, h, List.drop_nil, List.length_nil]
    congr 1
    omega
  | cons b rest =>
    simp only [afterDraws, draw_of_cons h, h, List.drop_succ_cons, List.length_cons]
    congr 1
    omega

/-- Drawing `n` answers, in closed form. -/
theorem drawN_eq (n : Nat) (s : State) : drawN n s = (envBytes n s, afterDraws n s) := by
  induction n generalizing s with
  | zero => simp [drawN]
  | succ n ih => simp only [drawN, ih, envBytes_succ, afterDraws_succ]

/-- Where the script is long enough the answers are its bytes. -/
theorem envBytes_of_script {n : Nat} {s : State} (bs rest : List Byte) (h : s.env = bs ++ rest) (hn : bs.length = n) :
    envBytes n s = bs := by
  subst hn
  simp only [envBytes, h, List.append_assoc]
  rw [List.take_append_of_le_length (Nat.le_refl _), List.take_length]

theorem afterDraws_of_script {n : Nat} {s : State} (bs rest : List Byte) (h : s.env = bs ++ rest)
    (hn : bs.length = n) : afterDraws n s = { s with env := rest } := by
  subst hn
  simp [afterDraws, h]

/-- Sending bytes, in closed form. -/
theorem sendBytes_eq (bs : List Byte) (s : State) :
    sendBytes bs s =
      { afterDraws bs.length s with
        trace := s.trace ++ exchanges bs (envBytes bs.length s)
        byteIdx := s.byteIdx + bs.length } := by
  induction bs generalizing s with
  | nil => simp [sendBytes, exchanges]
  | cons b bs ih =>
    rw [sendBytes, ih]
    simp only [List.length_cons, envBytes_succ, afterDraws_succ, exchanges, List.zipWith_cons_cons]
    cases h : s.env with
    | nil =>
      simp [xchgSend, emit, countByte, afterDraws, envBytes, draw_of_nil h, h]
      omega
    | cons c rest =>
      simp [xchgSend, emit, countByte, afterDraws, envBytes, draw_of_cons h]
      omega

/-- Receiving bytes, in closed form. -/
theorem recvBytes_eq (bs : List Byte) (s : State) :
    recvBytes bs s = { s with trace := s.trace ++ receives bs, byteIdx := s.byteIdx + bs.length } := by
  induction bs generalizing s with
  | nil => simp [recvBytes, receives]
  | cons b bs ih =>
    rw [recvBytes, ih]
    simp [xchgRecv, emit, countByte, receives, Config.fillByte]
    omega

/-- Polling a busy-wait, in closed form. -/
theorem busyPolls_eq (bs : List Byte) (s : State) :
    busyPolls bs s = { s with trace := s.trace ++ receives bs, busyCnt := s.busyCnt + bs.length } := by
  induction bs generalizing s with
  | nil => simp [busyPolls, receives]
  | cons b bs ih =>
    rw [busyPolls, ih]
    simp [busyPoll, xchgRecv, emit, receives, Config.fillByte]
    omega

/-- `Send`, in closed form (spec R132). -/
theorem send_eq (opcode : BitVec 6) (argument : Word32) (crc7 : BitVec 7) (s : State) :
    send opcode argument crc7 s =
      { afterDraws 6 s with
        frame := encodeFrame opcode argument crc7
        trace := s.trace ++ exchanges (encodeFrame opcode argument crc7).bytes (envBytes 6 s)
        byteIdx := 6
        pollCnt := 0
        seq := s.seq.afterSend } := by
  rw [send, sendBytes_eq]
  simp [Frame.bytes, beginReader, clearByteIdx, afterDraws, envBytes]

/-- The payload of R3 and R7 received, in closed form (spec R154). -/
theorem recvPayload_eq (p : Payload) (s : State) :
    recvPayload p s = { s with trace := s.trace ++ receives p.bytes, byteIdx := 4, payload := p } := by
  rw [recvPayload, recvBytes_eq]
  simp [clearByteIdx, Payload.bytes]

end Sys2Proof.Machine
end

