-- ==== Sys2Proof/Laws/Step.lean ====
section
/-!
SUPPORT. What a step does at each kind of program point, said once: later proofs cite these lemmas and do not unfold the
sequencer or the decoder.
-/

namespace Sys2Proof.Machine

/-! ### Which instruction a response point selects -/

theorem selectResponse_filler (shape : Shape) {s : State} (h : (draw s).1.getLsbD 7 = true) :
    selectResponse shape s = .instr (.filler ((draw s).1.extractLsb' 0 7)) (draw s).2 := by
  simp only [selectResponse, h, if_true, decode_filler shape h, selectDecoded]

theorem selectResponse_r1 {s : State} (h : (draw s).1.getLsbD 7 = false) :
    selectResponse .r1 s = .instr (.r1 ((draw s).1.extractLsb' 0 7)) (draw s).2 := by
  simp only [selectResponse, h, extensionLength, drawN, decode_r1 h, selectDecoded]
  rfl

theorem selectResponse_r2_short {s : State} (h : (draw s).1.getLsbD 7 = false)
    (hi : (draw s).1.getLsbD 2 = true) :
    selectResponse .r2 s = .instr (.r2 ((draw s).1.extractLsb' 0 7) 0#8) (draw s).2 := by
  simp only [selectResponse, h, extensionLength, hi, if_true, drawN, decode_r2_short h hi, selectDecoded]
  rfl

theorem selectResponse_r2_full {s : State} (h : (draw s).1.getLsbD 7 = false)
    (hi : (draw s).1.getLsbD 2 = false) :
    selectResponse .r2 s =
      .instr (.r2 ((draw s).1.extractLsb' 0 7) (draw (draw s).2).1) (draw (draw s).2).2 := by
  simp only [selectResponse, h, extensionLength, hi, drawN, Bool.false_eq_true, if_false, decode_r2_full h hi,
    selectDecoded]

/-- Four answers are a payload. -/
theorem exists_payload_answers (s : State) : ∃ p : Payload, p.bytes = envBytes 4 s :=
  exists_payload_of_length (envBytes_length 4 s)

theorem selectResponse_r3_short {s : State} (h : (draw s).1.getLsbD 7 = false)
    (hi : (draw s).1.getLsbD 2 = true) :
    selectResponse .r3 s = .instr (.r3 ((draw s).1.extractLsb' 0 7) ⟨0#8, 0#8, 0#8, 0#8⟩) (draw s).2 := by
  simp only [selectResponse, h, extensionLength, hi, if_true, drawN, decode_r3_short h hi, selectDecoded]
  rfl

theorem selectResponse_r3_full {s : State} {p : Payload} (h : (draw s).1.getLsbD 7 = false)
    (hi : (draw s).1.getLsbD 2 = false) (hp : envBytes 4 (draw s).2 = p.bytes) :
    selectResponse .r3 s = .instr (.r3 ((draw s).1.extractLsb' 0 7) p) (afterDraws 4 (draw s).2) := by
  have := decode_r3_full h hi p []
  rw [List.append_nil] at this
  simp only [selectResponse, h, extensionLength, hi, drawN_eq, Bool.false_eq_true, if_false, hp, this, selectDecoded]

theorem selectResponse_r7_short {s : State} (h : (draw s).1.getLsbD 7 = false)
    (hi : (draw s).1.getLsbD 2 = true) :
    selectResponse .r7 s = .instr (.r7 ((draw s).1.extractLsb' 0 7) ⟨0#8, 0#8, 0#8, 0#8⟩) (draw s).2 := by
  simp only [selectResponse, h, extensionLength, hi, if_true, drawN, decode_r7_short h hi, selectDecoded]
  rfl

theorem selectResponse_r7_full {s : State} {p : Payload} (h : (draw s).1.getLsbD 7 = false)
    (hi : (draw s).1.getLsbD 2 = false) (hp : envBytes 4 (draw s).2 = p.bytes) :
    selectResponse .r7 s = .instr (.r7 ((draw s).1.extractLsb' 0 7) p) (afterDraws 4 (draw s).2) := by
  have := decode_r7_full h hi p []
  rw [List.append_nil] at this
  simp only [selectResponse, h, extensionLength, hi, drawN_eq, Bool.false_eq_true, if_false, hp, this, selectDecoded]

/-- A response point selects a filler or a response of its shape, on the state after as many answers as the word has
bytes. -/
theorem selectResponse_cases (shape : Shape) (hs : shape ≠ .r1b) (s : State) :
    (∃ x, selectResponse shape s = .instr (.filler x) (afterDraws 1 s)) ∨
    (shape = .r1 ∧ ∃ st, selectResponse shape s = .instr (.r1 st) (afterDraws 1 s)) ∨
    (shape = .r2 ∧ ∃ st t n, selectResponse shape s = .instr (.r2 st t) (afterDraws n s)) ∨
    (shape = .r3 ∧ ∃ st p n, selectResponse shape s = .instr (.r3 st p) (afterDraws n s)) ∨
    (shape = .r7 ∧ ∃ st p n, selectResponse shape s = .instr (.r7 st p) (afterDraws n s)) := by
  cases h : (draw s).1.getLsbD 7 with
  | true => exact .inl ⟨_, by rw [selectResponse_filler shape h, draw_state]⟩
  | false =>
    right
    cases shape with
    | r1b => exact absurd rfl hs
    | r1 => exact .inl ⟨rfl, _, by rw [selectResponse_r1 h, draw_state]⟩
    | r2 =>
      refine .inr (.inl ⟨rfl, ?_⟩)
      cases hi : (draw s).1.getLsbD 2 with
      | true => exact ⟨_, _, 1, by rw [selectResponse_r2_short h hi, draw_state]⟩
      | false => exact ⟨_, _, 2, by rw [selectResponse_r2_full h hi, afterDraws_succ, draw_state (draw s).2]⟩
    | r3 =>
      refine .inr (.inr (.inl ⟨rfl, ?_⟩))
      cases hi : (draw s).1.getLsbD 2 with
      | true => exact ⟨_, _, 1, by rw [selectResponse_r3_short h hi, draw_state]⟩
      | false =>
        obtain ⟨p, hp⟩ := exists_payload_answers (draw s).2
        exact ⟨_, p, 5, by rw [selectResponse_r3_full h hi hp.symm, ← afterDraws_succ 4 s]⟩
    | r7 =>
      refine .inr (.inr (.inr ⟨rfl, ?_⟩))
      cases hi : (draw s).1.getLsbD 2 with
      | true => exact ⟨_, _, 1, by rw [selectResponse_r7_short h hi, draw_state]⟩
      | false =>
        obtain ⟨p, hp⟩ := exists_payload_answers (draw s).2
        exact ⟨_, p, 5, by rw [selectResponse_r7_full h hi hp.symm, ← afterDraws_succ 4 s]⟩

/-! ### The other points that read -/

theorem selectToken_found {s : State} (h : (draw s).1 = Config.startToken) :
    selectToken s = .instr .startToken (draw s).2 := by
  simp [selectToken, decode, decodeToken, h]

theorem selectToken_skip {s : State} (h : (draw s).1 ≠ Config.startToken) :
    selectToken s = .control (.skipByte (draw s).1) (draw s).2 := by
  simp [selectToken, decode, decodeToken, h]

theorem selectReadData_eq {s : State} {payload : List Byte} {c0 c1 : Byte} (hl : payload.length = Config.blockSize)
    (h : envBytes (Config.blockSize + 2) s = payload ++ [c0, c1]) :
    selectReadData s = .instr (.readData payload c0 c1) (afterDraws (Config.blockSize + 2) s) := by
  simp only [selectReadData, drawN_eq, h, decode_dataIn payload c0 c1 hl [], selectDecoded]

theorem selectReadData_cases (s : State) :
    ∃ payload c0 c1, payload.length = Config.blockSize ∧
      envBytes (Config.blockSize + 2) s = payload ++ [c0, c1] ∧
      selectReadData s = .instr (.readData payload c0 c1) (afterDraws (Config.blockSize + 2) s) := by
  obtain ⟨p, c0, c1, hl, h⟩ := exists_block_of_length (envBytes_length (Config.blockSize + 2) s)
  exact ⟨p, c0, c1, hl, h, selectReadData_eq hl h⟩

theorem selectDataResp_eq (s : State) :
    selectDataResp s =
      .instr (.dataResp ((draw s).1.extractLsb' 5 3) ((draw s).1.extractLsb' 0 5)) (draw s).2 := by
  simp only [selectDataResp, decode, decodeDataResp, selectDecoded]

theorem instr_ne_undecoded (i : Instr) (t : State) : Selected.instr i t ≠ .undecoded := nofun

theorem control_ne_undecoded (c : Control) (t : State) : Selected.control c t ≠ .undecoded := nofun

/-- No state makes the sequencer read bytes that are no word: the refusal `undecoded` is never raised. -/
theorem select_ne_undecoded (s : State) : select s ≠ .undecoded := by
  have resp : ∀ shape, shape ≠ .r1b → selectResponse shape s ≠ .undecoded := by
    intro shape hs
    rcases selectResponse_cases shape hs s with ⟨x, h⟩ | ⟨-, x, h⟩ | ⟨-, x, y, z, h⟩ | ⟨-, x, y, z, h⟩ |
      ⟨-, x, y, z, h⟩ <;> simp [h]
  have tok : selectToken s ≠ .undecoded := by
    by_cases h : (draw s).1 = Config.startToken
    · simp [selectToken_found h]
    · simp [selectToken_skip h]
  have data : selectReadData s ≠ .undecoded := by
    obtain ⟨_, _, _, _, _, h⟩ := selectReadData_cases s
    simp [h]
  have idle : selectIdle s ≠ .undecoded := by
    unfold selectIdle
    split <;> simp
  unfold select
  split <;>
    first
    | with_reducible exact resp _ (by decide)
    | with_reducible exact tok
    | with_reducible exact data
    | with_reducible exact idle
    | with_reducible exact instr_ne_undecoded _ _
    | with_reducible exact control_ne_undecoded _ _
    | (rw [selectDataResp_eq]; exact instr_ne_undecoded _ _)

/-! ### A step runs what is selected -/

theorem step_of_instr {s t : State} {i : Instr} (h : select s = .instr i t) : step s = exec i t := by
  simp [step, h]

theorem step_of_control {s t : State} {c : Control} (h : select s = .control c t) : step s = perform c t := by
  simp [step, h]

/-- Every instruction answers a next state, in every state. -/
theorem exec_next (i : Instr) (s : State) : ∃ t, exec i s = .next t := by
  cases i <;>
    simp only [exec, execCmd0, execCmd8, execCmd13, execCmd16, execCmd17, execCmd24, execCmd55, execAcmd41, execCmd58,
      execFiller, execR1, execR1b, execR2, execR3, execR7, execStartToken, execReadData, execWriteData, execDataResp,
      execNop, execInit, execReadBlock, execWriteBlock] <;>
    (try split) <;> exact ⟨_, rfl⟩

end Sys2Proof.Machine
end

