-- ==== Sys2Proof/Laws/Exec.lean ====
section
/-!
SUPPORT. What each meaning does, in the terms of Safety.lean: one equation per meaning and case, and what the decisions of
the calling steps can change.
-/

namespace Sys2Proof.Machine

/-! ### The decisions -/

section frames
variable (s : State)

theorem enterOcrCheck_frame :
    enterOcrCheck s = { s with acmdCnt := (enterOcrCheck s).acmdCnt, seq := (enterOcrCheck s).seq } := by
  by_cases h : s.params.ocrCheck = true <;> simp [enterOcrCheck, enterIdleWait, goto, h]

theorem enterBlockLenSet_frame : enterBlockLenSet s = { s with seq := (enterBlockLenSet s).seq } := by
  cases h : s.capPending <;> simp [enterBlockLenSet, goto, h]

theorem enterCapacityDetect_frame :
    enterCapacityDetect s = { s with
      capPending := (enterCapacityDetect s).capPending, seq := (enterCapacityDetect s).seq } := by
  cases h : s.cs.versionClass <;> simp [enterCapacityDetect, enterBlockLenSet, goto, h]

/-- The decision on a token changes only the version class, three counters, the pending class and the program point. -/
theorem onToken_frame :
    onToken s = { s with
      cs := { s.cs with versionClass := (onToken s).cs.versionClass }
      retryCnt := (onToken s).retryCnt, acmdCnt := (onToken s).acmdCnt
      tokCnt := (onToken s).tokCnt, capPending := (onToken s).capPending, seq := (onToken s).seq } := by
  unfold onToken
  split <;> try rfl
  · unfold decideReset retryReset
    split <;> try rfl
    split <;> rfl
  · unfold decideVoltageCheck
    split
    · rw [enterOcrCheck_frame]; rfl
    · split
      · rw [enterOcrCheck_frame]; rfl
      · rfl
  · unfold decideOcrCheck
    split <;> try rfl
    split <;> rfl
  · unfold decideAcmd41
    split
    · split <;> rfl
    · rw [enterCapacityDetect_frame]
  · unfold decideCapacity
    split <;> try rfl
    rw [enterBlockLenSet_frame]
  · unfold decideBlockLen
    split <;> rfl
  · unfold decideReadCommand
    split <;> rfl
  · unfold decideWriteCommand
    split <;> rfl
  · unfold decideCardStatus
    split <;> try rfl
    split <;> rfl

/-- The decision on a reader Timeout changes only the attempt counter and the program point. -/
theorem onTimeout_frame :
    onTimeout s = { s with retryCnt := (onTimeout s).retryCnt, seq := (onTimeout s).seq } := by
  unfold onTimeout
  split <;> try rfl
  unfold retryReset
  split <;> rfl

/-- Where no response is read, no decision is made on a token. -/
theorem onToken_elsewhere (h : s.seq.readerShape = none) : onToken s = s := by
  unfold onToken
  split <;> simp_all [Seq.readerShape]

/-- At a point of table R241 a reader Timeout is the failure named there. -/
theorem onTimeout_reason {r : Reason} (h : s.seq.timeoutReason = some r) : onTimeout s = raise r s := by
  unfold onTimeout
  split <;> simp_all [Seq.timeoutReason]

/-- At the response point of step 1 a reader Timeout is a failed attempt. -/
theorem onTimeout_reset (h : s.seq = .i1Resp) : onTimeout s = retryReset s := by simp [onTimeout, h]

end frames

/-! ### Responses -/

section responses
variable (s : State) (st : BitVec 7) (p : Payload) (b : Byte)

theorem exec_r1 : exec (.r1 st) s = .next (onToken (withStatus .r1 st s)) := rfl

theorem exec_r2_short (h : st.getLsbD 2 = true) : exec (.r2 st b) s = .next (onToken (withStatus .r2 st s)) := by
  simp only [exec, execR2, illegalBit, statusByte_getLsbD_two, h]
  rfl

theorem exec_r2_full (h : st.getLsbD 2 = false) : exec (.r2 st b) s = .next (onToken (withStatus2 st b s)) := by
  simp only [exec, execR2, illegalBit, statusByte_getLsbD_two, h]
  simp [setToken, xchgRecv, emit, pollStatus, pollOnce, withStatus2, receives, Config.fillByte]

theorem exec_r3_short (h : st.getLsbD 2 = true) : exec (.r3 st p) s = .next (onToken (withStatus .r3 st s)) := by
  simp only [exec, execR3, readLong, illegalBit, statusByte_getLsbD_two, h]
  rfl

theorem exec_r3_full (h : st.getLsbD 2 = false) : exec (.r3 st p) s = .next (onToken (withPayload .r3 st p s)) := by
  simp only [exec, execR3, readLong, illegalBit, statusByte_getLsbD_two, h, recvPayload_eq]
  simp [setToken, xchgRecv, emit, pollStatus, pollOnce, withPayload, receives, Config.fillByte]

theorem exec_r7_short (h : st.getLsbD 2 = true) : exec (.r7 st p) s = .next (onToken (withStatus .r7 st s)) := by
  simp only [exec, execR7, readLong, illegalBit, statusByte_getLsbD_two, h]
  rfl

theorem exec_r7_full (h : st.getLsbD 2 = false) : exec (.r7 st p) s = .next (onToken (withPayload .r7 st p s)) := by
  simp only [exec, execR7, readLong, illegalBit, statusByte_getLsbD_two, h, recvPayload_eq]
  simp [setToken, xchgRecv, emit, pollStatus, pollOnce, withPayload, receives, Config.fillByte]

theorem exec_filler_again (x : BitVec 7) (h : s.pollCnt + 1 < Config.respBudget) :
    exec (.filler x) s =
      .next { s with trace := s.trace ++ [.x 0xFF#8 (fillerByte x)], pollCnt := s.pollCnt + 1 } := by
  simp only [exec, execFiller, h, if_true]
  rfl

theorem exec_filler_last (x : BitVec 7) (h : ¬ s.pollCnt + 1 < Config.respBudget) :
    exec (.filler x) s =
      .next (onTimeout { s with
        trace := s.trace ++ [.x 0xFF#8 (fillerByte x)], pollCnt := s.pollCnt + 1, extValid := false }) := by
  simp only [exec, execFiller, h, if_false]
  rfl

theorem exec_r1b_done (zeros : Nat) (h : zeros < s.params.busyBudget) :
    exec (.r1b st zeros b) s =
      .next (onToken { s with
        trace := s.trace ++ receives (statusByte st :: (List.replicate zeros 0#8 ++ [b]))
        pollCnt := s.pollCnt + 1, busyCnt := zeros + 1, status := statusByte st
        tokShape := .r1b, extValid := false }) := by
  simp only [exec, execR1b, h, if_true, busyPolls_eq]
  simp [setToken, beginBusyWait, pollStatus, pollOnce, xchgRecv, emit, receives, Config.fillByte]

theorem exec_r1b_timeout (zeros : Nat) (h : ¬ zeros < s.params.busyBudget) :
    exec (.r1b st zeros b) s =
      .next (onTimeout { s with
        trace := s.trace ++ receives (statusByte st :: List.replicate s.params.busyBudget 0#8)
        pollCnt := s.pollCnt + 1, busyCnt := s.params.busyBudget, status := statusByte st
        extValid := false }) := by
  simp only [exec, execR1b, h, if_false, busyPolls_eq, readerTimeout]
  simp [beginBusyWait, pollStatus, pollOnce, xchgRecv, emit, receives, Config.fillByte]

end responses

/-! ### The data path -/

theorem exec_readData (s : State) (payload : List Byte) (c0 c1 : Byte) :
    exec (.readData payload c0 c1) s =
      .next { s with
        buf := Memory.writeBytes s.buf 0 payload
        trace := s.trace ++ receives payload ++ receives [c0, c1]
        byteIdx := 2
        seq := .rDesel } := by
  simp only [exec, execReadData, recvBytes_eq]
  simp [clearByteIdx, goto]

/-- Answers taken in two goes are the answers taken at once. -/
theorem envBytes_add (m n : Nat) (s : State) : envBytes (m + n) s = envBytes m s ++ envBytes n (afterDraws m s) := by
  induction m generalizing s with
  | zero => simp
  | succ m ih =>
    rw [show m + 1 + n = m + n + 1 by omega, envBytes_succ, envBytes_succ, ih, afterDraws_succ, List.cons_append]

theorem afterDraws_add (m n : Nat) (s : State) : afterDraws (m + n) s = afterDraws n (afterDraws m s) := by
  induction m generalizing s with
  | zero => simp
  | succ m ih => rw [show m + 1 + n = m + n + 1 by omega, afterDraws_succ, afterDraws_succ, ih]

theorem exchanges_append {a b c d : List Byte} (h : a.length = c.length) :
    exchanges (a ++ b) (c ++ d) = exchanges a c ++ exchanges b d := by
  simp [exchanges, List.zipWith_append h]

theorem exec_writeData (s : State) (payload : List Byte) :
    exec (.writeData payload) s =
      .next { afterDraws (payload.length + 2) s with
        trace := s.trace ++ exchanges (payload ++ [0xFF#8, 0xFF#8]) (envBytes (payload.length + 2) s)
        byteIdx := 2
        seq := .wDresp } := by
  simp only [exec, execWriteData, sendBytes_eq]
  rw [envBytes_add, exchanges_append (by simp), afterDraws_add]
  simp [clearByteIdx, goto, afterDraws, envBytes, Config.dummyCrc0, Config.dummyCrc1]

/-! ### What the smaller operations can change, said once -/

/-- A poll of a write's busy-wait changes the trace by one exchange, `busy_cnt` and the program point. -/
theorem busyWaitByte_frame (b : Byte) (s : State) :
    busyWaitByte b s = { s with
      trace := s.trace ++ [.x 0xFF#8 b], busyCnt := s.busyCnt + 1, seq := (busyWaitByte b s).seq } := by
  unfold busyWaitByte
  split
  · split <;> rfl
  · rfl

/-- A poll of the token wait that skips a byte changes the trace by one exchange, `tok_cnt` and the program point. -/
theorem skipTokenByte_frame (b : Byte) (s : State) :
    skipTokenByte b s = { s with
      trace := s.trace ++ [.x 0xFF#8 b], tokCnt := s.tokCnt + 1, seq := (skipTokenByte b s).seq } := by
  unfold skipTokenByte
  split <;> rfl

/-- A failure exit releases the card, delivers the result and goes to IDLE; beside that it can change the phase,
`fail_reason` and `res_info`. -/
theorem failExit_frame (r : Reason) (s : State) :
    failExit r s = { s with
      phase := (failExit r s).phase, failReason := (failExit r s).failReason, resInfo := (failExit r s).resInfo
      trace := s.trace ++ [.desel], busy := false, done := true, resCode := r.code, seq := .idle } := by
  unfold failExit
  split
  · rfl
  · cases r <;> rfl

/-- Sending one byte is one exchange whose answer is dropped. -/
theorem xchgSend_eq (out : Byte) (s : State) :
    xchgSend out s = { afterDraws 1 s with trace := s.trace ++ exchanges [out] (envBytes 1 s) } := by
  have h : envBytes 1 s = [(draw s).1] := by rw [envBytes_succ, envBytes_zero]
  rw [h, xchgSend, draw_state]
  rfl

end Sys2Proof.Machine
end

