-- ==== Sys2Proof/Laws/Memory.lean ====
section
/-!
SUPPORT. The laws of the block buffer: a read after a write, and the canonical form kept by every operation.
-/

namespace Sys2Proof.Machine

theorem Memory.risingFrom_mono {lo lo' : Nat} (h : lo ≤ lo') :
    ∀ {m : Memory}, Memory.risingFrom lo' m = true → Memory.risingFrom lo m = true
  | [], _ => rfl
  | (a, b) :: m, hm => by
    simp only [Memory.risingFrom, Bool.and_eq_true, decide_eq_true_eq] at hm ⊢
    exact ⟨⟨Nat.le_trans h hm.1.1, hm.1.2⟩, hm.2⟩

/-- A canonical buffer holds nothing below its bound. -/
theorem Memory.read_below {lo a : Nat} (h : a < lo) :
    ∀ {m : Memory}, Memory.risingFrom lo m = true → Memory.read m a = none
  | [], _ => rfl
  | (a', b) :: m, hm => by
    simp only [Memory.risingFrom, Bool.and_eq_true, decide_eq_true_eq] at hm
    simp only [Memory.read]
    rw [if_neg (by omega)]
    exact Memory.read_below (lo := a' + 1) (by omega) hm.2

theorem Memory.write_risingFrom {a : Nat} {b : Byte} (ha : a < Config.blockSize) :
    ∀ {m : Memory} {lo : Nat}, lo ≤ a → Memory.risingFrom lo m = true → Memory.risingFrom lo (Memory.write m a b) = true
  | [], lo, hlo, _ => by simp [Memory.write, Memory.risingFrom, hlo, ha]
  | (a', b') :: m, lo, hlo, hm => by
    simp only [Memory.risingFrom, Bool.and_eq_true, decide_eq_true_eq] at hm
    obtain ⟨⟨h1, h2⟩, h3⟩ := hm
    simp only [Memory.write]
    split
    · simp only [Memory.risingFrom, Bool.and_eq_true, decide_eq_true_eq]
      exact ⟨⟨hlo, ha⟩, ⟨⟨by omega, h2⟩, h3⟩⟩
    · split
      · subst a
        simp only [Memory.risingFrom, Bool.and_eq_true, decide_eq_true_eq]
        exact ⟨⟨hlo, ha⟩, h3⟩
      · simp only [Memory.risingFrom, Bool.and_eq_true, decide_eq_true_eq]
        exact ⟨⟨h1, h2⟩, Memory.write_risingFrom ha (by omega) h3⟩

/-- A write inside 0..511 keeps the canonical form. -/
theorem Memory.write_wf {m : Memory} {a : Nat} {b : Byte} (ha : a < Config.blockSize) (h : Memory.wf m = true) :
    Memory.wf (Memory.write m a b) = true :=
  Memory.write_risingFrom ha (Nat.zero_le _) h

/-- Consecutive writes inside 0..511 keep the canonical form. -/
theorem Memory.writeBytes_wf :
    ∀ {bs : List Byte} {m : Memory} {a : Nat}, a + bs.length ≤ Config.blockSize → Memory.wf m = true →
      Memory.wf (Memory.writeBytes m a bs) = true
  | [], _, _, _, h => h
  | b :: bs, m, a, hl, h => by
    simp only [List.length_cons] at hl
    exact Memory.writeBytes_wf (bs := bs) (a := a + 1) (by omega) (Memory.write_wf (by omega) h)

/-- Reading a cell just written gives the value written. -/
@[simp] theorem Memory.read_write_same (m : Memory) (a : Nat) (b : Byte) :
    Memory.read (Memory.write m a b) a = some b := by
  induction m with
  | nil => simp [Memory.write, Memory.read]
  | cons c m ih =>
    obtain ⟨a', b'⟩ := c
    simp only [Memory.write]
    split
    · simp [Memory.read]
    · split
      · simp [Memory.read]
      · rename_i h1 h2
        simp [Memory.read, h2, ih]

/-- A write leaves every other cell alone. -/
theorem Memory.read_write_other (m : Memory) {a c : Nat} (b : Byte) (h : c ≠ a) :
    Memory.read (Memory.write m a b) c = Memory.read m c := by
  induction m with
  | nil => simp [Memory.write, Memory.read, h]
  | cons x m ih =>
    obtain ⟨a', b'⟩ := x
    simp only [Memory.write]
    split
    · simp [Memory.read, h]
    · split
      · rename_i h1 h2
        subst h2
        simp [Memory.read, h]
      · simp only [Memory.read, ih]

/-- Consecutive writes leave every cell outside them alone. -/
theorem Memory.read_writeBytes_outside :
    ∀ (bs : List Byte) (m : Memory) (a c : Nat), (c < a ∨ a + bs.length ≤ c) →
      Memory.read (Memory.writeBytes m a bs) c = Memory.read m c
  | [], _, _, _, _ => rfl
  | b :: bs, m, a, c, h => by
    simp only [List.length_cons] at h
    rw [Memory.writeBytes, Memory.read_writeBytes_outside bs _ (a + 1) c (by omega),
      Memory.read_write_other m b (by omega)]

/-- After consecutive writes the k-th cell holds the k-th byte. -/
theorem Memory.read_writeBytes_inside :
    ∀ (bs : List Byte) (m : Memory) (a k : Nat), k < bs.length →
      Memory.read (Memory.writeBytes m a bs) (a + k) = bs[k]?
  | [], _, _, _, h => absurd h (Nat.not_lt_zero _)
  | b :: bs, m, a, 0, _ => by
    rw [Memory.writeBytes, Memory.read_writeBytes_outside bs _ (a + 1) (a + 0) (by omega)]
    simp
  | b :: bs, m, a, k + 1, h => by
    rw [Memory.writeBytes, show a + (k + 1) = a + 1 + k by omega,
      Memory.read_writeBytes_inside bs _ (a + 1) k (by simpa using h)]
    simp

@[simp] theorem bufBytes_length (m : Memory) : (bufBytes m).length = Config.blockSize := by simp [bufBytes]

/-- A cell that holds a value is read as that value. -/
theorem bufByte_of_read {m : Memory} {a : Nat} {b : Byte} (h : Memory.read m a = some b) : bufByte m a = b := by
  simp [bufByte, h]

/-- The block read back after 512 bytes were written over it is those bytes. -/
theorem bufBytes_writeBytes (m : Memory) (bs : List Byte) (h : bs.length = Config.blockSize) :
    bufBytes (Memory.writeBytes m 0 bs) = bs := by
  apply List.ext_getElem
  · simp [h]
  · intro k hk hk'
    have := Memory.read_writeBytes_inside bs m 0 k hk'
    rw [Nat.zero_add, List.getElem?_eq_getElem hk'] at this
    simp only [bufBytes, List.getElem_map, List.getElem_range]
    exact bufByte_of_read this

end Sys2Proof.Machine
end

