-- ==== Sys2Proof/Laws/PerInstr.lean ====
section
/-!
SUPPORT. What is said of every instruction as syntax, one lemma per constructor: how many bytes its words have.
-/

namespace Sys2Proof.Laws.EncodedLength

/-- The number of bytes the spec gives an instruction's words: 6 for a frame (R90), 1 for a filler, R1, a token and a
data response, 2 and 5 for R2 and R3, R7 unless the illegal-command bit makes them 1 (R95, R96), the busy bytes of R1b
(R94), 515 for a data block with its token (R99, R100), and for a host request the byte form of log 9. -/
def length : Instr → Nat
  | .cmd0 => 6
  | .cmd8 => 6
  | .cmd13 => 6
  | .cmd16 => 6
  | .cmd17 _ => 6
  | .cmd24 _ => 6
  | .cmd55 => 6
  | .acmd41 _ => 6
  | .cmd58 => 6
  | .filler _ => 1
  | .r1 _ => 1
  | .r1b _ zeros _ => zeros + 2
  | .r2 s _ => if s.getLsbD 2 then 1 else 2
  | .r3 s _ => if s.getLsbD 2 then 1 else 5
  | .r7 s _ => if s.getLsbD 2 then 1 else 5
  | .startToken => 1
  | .readData _ _ _ => 515
  | .writeData _ => 515
  | .dataResp _ _ => 1
  | .nop => 1
  | .init => 1
  | .readBlock _ => 5
  | .writeBlock _ => 5

/-- The words of a well-formed instruction have that many bytes. -/
def Statement (i : Instr) : Prop := i.wellFormed = true → (encode i).length = length i

theorem cmd0 : Statement .cmd0 := fun _ => rfl

theorem cmd8 : Statement .cmd8 := fun _ => rfl

theorem cmd13 : Statement .cmd13 := fun _ => rfl

theorem cmd16 : Statement .cmd16 := fun _ => rfl

theorem cmd17 (addr : Word32) : Statement (.cmd17 addr) := fun _ => rfl

theorem cmd24 (addr : Word32) : Statement (.cmd24 addr) := fun _ => rfl

theorem cmd55 : Statement .cmd55 := fun _ => rfl

theorem acmd41 (hcs : Bool) : Statement (.acmd41 hcs) := fun _ => rfl

theorem cmd58 : Statement .cmd58 := fun _ => rfl

theorem filler (x : BitVec 7) : Statement (.filler x) := fun _ => rfl

theorem r1 (s : BitVec 7) : Statement (.r1 s) := fun _ => rfl

theorem r1b (s : BitVec 7) (zeros : Nat) (last : Byte) : Statement (.r1b s zeros last) :=
  fun _ => by simp [encode, length]

theorem r2 (s : BitVec 7) (t : Byte) : Statement (.r2 s t) := by
  intro _
  simp only [encode, length]
  split <;> rfl

theorem r3 (s : BitVec 7) (p : Payload) : Statement (.r3 s p) := by
  intro _
  simp only [encode, length]
  split <;> rfl

theorem r7 (s : BitVec 7) (p : Payload) : Statement (.r7 s p) := by
  intro _
  simp only [encode, length]
  split <;> rfl

theorem startToken : Statement .startToken := fun _ => rfl

theorem readData (payload : List Byte) (crc0 crc1 : Byte) : Statement (.readData payload crc0 crc1) := by
  intro h
  have hl : payload.length = 512 := by simpa [Instr.wellFormed, Config.blockSize] using h
  simp [encode, length, hl]

theorem writeData (payload : List Byte) : Statement (.writeData payload) := by
  intro h
  have hl : payload.length = 512 := by simpa [Instr.wellFormed, Config.blockSize] using h
  simp [encode, length, hl]

theorem dataResp (ignored : BitVec 3) (code : BitVec 5) : Statement (.dataResp ignored code) := fun _ => rfl

theorem nop : Statement .nop := fun _ => rfl

theorem init : Statement .init := fun _ => rfl

theorem readBlock (index : Word32) : Statement (.readBlock index) := fun _ => rfl

theorem writeBlock (index : Word32) : Statement (.writeBlock index) := fun _ => rfl

end Sys2Proof.Laws.EncodedLength
end

