-- ==== Sys2Proof/Laws/Reader.lean ====
section
/-!
SUPPORT. A step at a point where a response is read, said once: what is received, and then another poll, the decision
on a token, or the decision on a Timeout.
-/

namespace Sys2Proof.Machine

/-- At a point where a response is read, the response of that shape is selected. -/
theorem select_reader {s : State} {sh : Shape} (h : s.seq.readerShape = some sh) :
    select s = selectResponse sh s := by
  unfold select
  revert h
  cases s.seq <;> simp only [Seq.readerShape, Option.some.injEq, reduceCtorEq, false_implies] <;> (intro h; rw [h])

/-- No program point reads R1b. -/
theorem readerShape_ne_r1b (q : Seq) : q.readerShape ≠ some .r1b := by cases q <;> simp [Seq.readerShape]

/-- `v` is `s` after bytes of a response were received: only the token registers, `poll_cnt`, `byte_idx`, the trace and
the environment may differ. -/
structure Received (s v : State) : Prop where
  cs : v.cs = s.cs
  phase : v.phase = s.phase
  failReason : v.failReason = s.failReason
  busy : v.busy = s.busy
  done : v.done = s.done
  resCode : v.resCode = s.resCode
  resInfo : v.resInfo = s.resInfo
  op : v.op = s.op
  index : v.index = s.index
  addr : v.addr = s.addr
  retryCnt : v.retryCnt = s.retryCnt
  acmdCnt : v.acmdCnt = s.acmdCnt
  busyCnt : v.busyCnt = s.busyCnt
  tokCnt : v.tokCnt = s.tokCnt
  capPending : v.capPending = s.capPending
  buf : v.buf = s.buf
  seq : v.seq = s.seq
  params : v.params = s.params
  hostQ : v.hostQ = s.hostQ
  pollCnt : v.pollCnt = s.pollCnt + 1
  trace : ∃ bytes, bytes ≠ [] ∧ v.trace = s.trace ++ receives bytes

/-- The three ways a step at a response point ends. -/
inductive ReaderStep (s : State) : State → Prop where
  | again (v : State) (h : Received s v) (hp : s.pollCnt + 1 < Config.respBudget) : ReaderStep s v
  | last (v : State) (h : Received s v) : ReaderStep s (onTimeout v)
  | token (v : State) (h : Received s v) : ReaderStep s (onToken v)

theorem received_withStatus (sh : Shape) (st : BitVec 7) (n : Nat) (s : State) :
    Received s (withStatus sh st (afterDraws n s)) := by
  constructor <;> first | rfl | exact ⟨[statusByte st], by simp, rfl⟩

theorem received_withStatus2 (st : BitVec 7) (b : Byte) (n : Nat) (s : State) :
    Received s (withStatus2 st b (afterDraws n s)) := by
  constructor <;> first | rfl | exact ⟨[statusByte st, b], by simp, rfl⟩

theorem received_withPayload (sh : Shape) (st : BitVec 7) (p : Payload) (n : Nat) (s : State) :
    Received s (withPayload sh st p (afterDraws n s)) := by
  constructor <;> first | rfl | exact ⟨statusByte st :: p.bytes, by simp, rfl⟩

/-- What a step at a response point does. -/
theorem step_reader {s t : State} {sh : Shape} (h : s.seq.readerShape = some sh) (hs : step s = .next t) :
    ReaderStep s t := by
  have hne : sh ≠ .r1b := by rintro rfl; exact readerShape_ne_r1b _ h
  have hsel := select_reader h
  rcases selectResponse_cases sh hne s with ⟨x, hx⟩ | ⟨-, st, hx⟩ | ⟨-, st, b, n, hx⟩ | ⟨-, st, p, n, hx⟩ |
    ⟨-, st, p, n, hx⟩ <;> rw [hx] at hsel <;> rw [step_of_instr hsel] at hs
  · by_cases hl : s.pollCnt + 1 < Config.respBudget
    · rw [exec_filler_again _ _ (by exact hl)] at hs
      injection hs with hs
      subst hs
      exact .again _ (by constructor <;> first | rfl | exact ⟨[_], by simp, rfl⟩) hl
    · rw [exec_filler_last _ _ (by exact hl)] at hs
      injection hs with hs
      subst hs
      exact .last _ (by constructor <;> first | rfl | exact ⟨[_], by simp, rfl⟩)
  · rw [exec_r1] at hs
    injection hs with hs
    subst hs
    exact .token _ (received_withStatus ..)
  · cases h2 : st.getLsbD 2 with
    | false =>
      rw [exec_r2_full _ _ _ h2] at hs
      injection hs with hs
      subst hs
      exact .token _ (received_withStatus2 ..)
    | true =>
      rw [exec_r2_short _ _ _ h2] at hs
      injection hs with hs
      subst hs
      exact .token _ (received_withStatus ..)
  · cases h2 : st.getLsbD 2 with
    | false =>
      rw [exec_r3_full _ _ _ h2] at hs
      injection hs with hs
      subst hs
      exact .token _ (received_withPayload ..)
    | true =>
      rw [exec_r3_short _ _ _ h2] at hs
      injection hs with hs
      subst hs
      exact .token _ (received_withStatus ..)
  · cases h2 : st.getLsbD 2 with
    | false =>
      rw [exec_r7_full _ _ _ h2] at hs
      injection hs with hs
      subst hs
      exact .token _ (received_withPayload ..)
    | true =>
      rw [exec_r7_short _ _ _ h2] at hs
      injection hs with hs
      subst hs
      exact .token _ (received_withStatus ..)

/-! ### Field by field, what a decision leaves alone -/

@[simp] theorem onToken_phase (s : State) : (onToken s).phase = s.phase := by rw [onToken_frame]
@[simp] theorem onToken_failReason (s : State) : (onToken s).failReason = s.failReason := by rw [onToken_frame]
@[simp] theorem onToken_busy (s : State) : (onToken s).busy = s.busy := by rw [onToken_frame]
@[simp] theorem onToken_done (s : State) : (onToken s).done = s.done := by rw [onToken_frame]
@[simp] theorem onToken_resCode (s : State) : (onToken s).resCode = s.resCode := by rw [onToken_frame]
@[simp] theorem onToken_resInfo (s : State) : (onToken s).resInfo = s.resInfo := by rw [onToken_frame]
@[simp] theorem onToken_op (s : State) : (onToken s).op = s.op := by rw [onToken_frame]
@[simp] theorem onToken_index (s : State) : (onToken s).index = s.index := by rw [onToken_frame]
@[simp] theorem onToken_addr (s : State) : (onToken s).addr = s.addr := by rw [onToken_frame]
@[simp] theorem onToken_frameReg (s : State) : (onToken s).frame = s.frame := by rw [onToken_frame]
@[simp] theorem onToken_tokShape (s : State) : (onToken s).tokShape = s.tokShape := by rw [onToken_frame]
@[simp] theorem onToken_status (s : State) : (onToken s).status = s.status := by rw [onToken_frame]
@[simp] theorem onToken_status2 (s : State) : (onToken s).status2 = s.status2 := by rw [onToken_frame]
@[simp] theorem onToken_payload (s : State) : (onToken s).payload = s.payload := by rw [onToken_frame]
@[simp] theorem onToken_extValid (s : State) : (onToken s).extValid = s.extValid := by rw [onToken_frame]
@[simp] theorem onToken_dresp (s : State) : (onToken s).dresp = s.dresp := by rw [onToken_frame]
@[simp] theorem onToken_pollCnt (s : State) : (onToken s).pollCnt = s.pollCnt := by rw [onToken_frame]
@[simp] theorem onToken_busyCnt (s : State) : (onToken s).busyCnt = s.busyCnt := by rw [onToken_frame]
@[simp] theorem onToken_byteIdx (s : State) : (onToken s).byteIdx = s.byteIdx := by rw [onToken_frame]
@[simp] theorem onToken_buf (s : State) : (onToken s).buf = s.buf := by rw [onToken_frame]
@[simp] theorem onToken_trace (s : State) : (onToken s).trace = s.trace := by rw [onToken_frame]
@[simp] theorem onToken_params (s : State) : (onToken s).params = s.params := by rw [onToken_frame]
@[simp] theorem onToken_hostQ (s : State) : (onToken s).hostQ = s.hostQ := by rw [onToken_frame]
@[simp] theorem onToken_env (s : State) : (onToken s).env = s.env := by rw [onToken_frame]
@[simp] theorem onToken_envDrawn (s : State) : (onToken s).envDrawn = s.envDrawn := by rw [onToken_frame]

@[simp] theorem onTimeout_cs (s : State) : (onTimeout s).cs = s.cs := by rw [onTimeout_frame]
@[simp] theorem onTimeout_phase (s : State) : (onTimeout s).phase = s.phase := by rw [onTimeout_frame]
@[simp] theorem onTimeout_failReason (s : State) : (onTimeout s).failReason = s.failReason := by rw [onTimeout_frame]
@[simp] theorem onTimeout_busy (s : State) : (onTimeout s).busy = s.busy := by rw [onTimeout_frame]
@[simp] theorem onTimeout_done (s : State) : (onTimeout s).done = s.done := by rw [onTimeout_frame]
@[simp] theorem onTimeout_resCode (s : State) : (onTimeout s).resCode = s.resCode := by rw [onTimeout_frame]
@[simp] theorem onTimeout_resInfo (s : State) : (onTimeout s).resInfo = s.resInfo := by rw [onTimeout_frame]
@[simp] theorem onTimeout_op (s : State) : (onTimeout s).op = s.op := by rw [onTimeout_frame]
@[simp] theorem onTimeout_index (s : State) : (onTimeout s).index = s.index := by rw [onTimeout_frame]
@[simp] theorem onTimeout_addr (s : State) : (onTimeout s).addr = s.addr := by rw [onTimeout_frame]
@[simp] theorem onTimeout_frameReg (s : State) : (onTimeout s).frame = s.frame := by rw [onTimeout_frame]
@[simp] theorem onTimeout_tokShape (s : State) : (onTimeout s).tokShape = s.tokShape := by rw [onTimeout_frame]
@[simp] theorem onTimeout_status (s : State) : (onTimeout s).status = s.status := by rw [onTimeout_frame]
@[simp] theorem onTimeout_status2 (s : State) : (onTimeout s).status2 = s.status2 := by rw [onTimeout_frame]
@[simp] theorem onTimeout_payload (s : State) : (onTimeout s).payload = s.payload := by rw [onTimeout_frame]
@[simp] theorem onTimeout_extValid (s : State) : (onTimeout s).extValid = s.extValid := by rw [onTimeout_frame]
@[simp] theorem onTimeout_dresp (s : State) : (onTimeout s).dresp = s.dresp := by rw [onTimeout_frame]
@[simp] theorem onTimeout_pollCnt (s : State) : (onTimeout s).pollCnt = s.pollCnt := by rw [onTimeout_frame]
@[simp] theorem onTimeout_busyCnt (s : State) : (onTimeout s).busyCnt = s.busyCnt := by rw [onTimeout_frame]
@[simp] theorem onTimeout_byteIdx (s : State) : (onTimeout s).byteIdx = s.byteIdx := by rw [onTimeout_frame]
@[simp] theorem onTimeout_buf (s : State) : (onTimeout s).buf = s.buf := by rw [onTimeout_frame]
@[simp] theorem onTimeout_trace (s : State) : (onTimeout s).trace = s.trace := by rw [onTimeout_frame]
@[simp] theorem onTimeout_params (s : State) : (onTimeout s).params = s.params := by rw [onTimeout_frame]
@[simp] theorem onTimeout_hostQ (s : State) : (onTimeout s).hostQ = s.hostQ := by rw [onTimeout_frame]
@[simp] theorem onTimeout_env (s : State) : (onTimeout s).env = s.env := by rw [onTimeout_frame]
@[simp] theorem onTimeout_envDrawn (s : State) : (onTimeout s).envDrawn = s.envDrawn := by rw [onTimeout_frame]
@[simp] theorem onTimeout_acmdCnt (s : State) : (onTimeout s).acmdCnt = s.acmdCnt := by rw [onTimeout_frame]
@[simp] theorem onTimeout_tokCnt (s : State) : (onTimeout s).tokCnt = s.tokCnt := by rw [onTimeout_frame]
@[simp] theorem onTimeout_capPending (s : State) : (onTimeout s).capPending = s.capPending := by rw [onTimeout_frame]

end Sys2Proof.Machine
end

