-- ==== Sys2Proof/Laws/Runs.lean ====
section
/-!
SUPPORT. Runs of several steps put together, and the bus discipline read over traces put together.
-/

namespace Sys2Proof.Machine

theorem leads_zero (s : State) : Leads 0 s s := rfl

/-- A step and then a run are a run. -/
theorem leads_succ {n : Nat} {s u t : State} (h : step s = .next u) (h' : Leads n u t) : Leads (n + 1) s t := by
  have h1 : core.step s = .next u := h
  simp only [Leads, Host.Core.run, h1]
  exact h'

theorem leads_one {s t : State} (h : step s = .next t) : Leads 1 s t := leads_succ h (leads_zero t)

/-- Two runs one after the other are a run. -/
theorem leads_trans : ∀ {m n : Nat} {s u t : State}, Leads m s u → Leads n u t → Leads (m + n) s t
  | 0, n, s, u, t, h, h' => by
    simp only [Leads, Host.Core.run] at h
    injection h with h
    subst h
    rw [Nat.zero_add]
    exact h'
  | m + 1, n, s, u, t, h, h' => by
    simp only [Leads, Host.Core.run] at h
    split at h
    · rename_i v hv
      rw [show m + 1 + n = (m + n) + 1 by omega]
      exact leads_succ hv (leads_trans h h')
    · cases h
    · cases h

theorem reaches_refl (s : State) : Reaches s s := ⟨0, leads_zero s⟩

theorem reaches_step {s u t : State} (h : step s = .next u) (h' : Reaches u t) : Reaches s t := by
  obtain ⟨n, hn⟩ := h'
  exact ⟨n + 1, leads_succ h hn⟩

theorem reaches_trans {s u t : State} (h : Reaches s u) (h' : Reaches u t) : Reaches s t := by
  obtain ⟨m, hm⟩ := h
  obtain ⟨n, hn⟩ := h'
  exact ⟨m + n, leads_trans hm hn⟩

/-- The bus discipline of two traces one after the other. -/
theorem chipSelect_append :
    ∀ (l : List BusEvent) (b : Bool) (m : List BusEvent),
      chipSelect b (l ++ m) = (chipSelect b l).bind (fun c => chipSelect c m)
  | [], _, _ => rfl
  | e :: l, b, m => by cases b <;> cases e <;> simp [chipSelect, chipSelect_append l]

/-- Every event is an exchange. -/
abbrev AllExchanges (l : List BusEvent) : Prop := ∀ e ∈ l, ∃ out inn, e = BusEvent.x out inn

/-- Exchanges keep the discipline while the card is selected. -/
theorem chipSelect_exchanges : ∀ {l : List BusEvent}, AllExchanges l → chipSelect true l = some true
  | [], _ => rfl
  | e :: l, h => by
    obtain ⟨out, inn, rfl⟩ := h e (by simp)
    exact chipSelect_exchanges (l := l) (fun x hx => h x (by simp [hx]))

theorem allExchanges_receives (bs : List Byte) : AllExchanges (receives bs) := by
  intro e he
  simp only [receives, List.mem_map] at he
  obtain ⟨b, _, rfl⟩ := he
  exact ⟨_, _, rfl⟩

theorem allExchanges_exchanges : ∀ (a b : List Byte), AllExchanges (exchanges a b)
  | [], _, e, he => by simp [exchanges] at he
  | _ :: _, [], e, he => by simp [exchanges] at he
  | a :: as, b :: bs, e, he => by
    simp only [exchanges, List.zipWith_cons_cons, List.mem_cons] at he
    rcases he with rfl | he
    · exact ⟨_, _, rfl⟩
    · exact allExchanges_exchanges as bs e he

/-! ### An answer -/

@[simp] theorem Answer.bytes_length (a : Answer) :
    a.bytes.length = a.dropped.length + a.fillers.length + a.response.length := by
  simp only [Answer.bytes, List.length_append]

/-- A command and the reading of its response are exchanges, nothing else. -/
theorem Answer.allExchanges_trace (a : Answer) (command : Instr) : AllExchanges (a.trace command) := by
  intro e he
  rw [Answer.trace, List.mem_append] at he
  exact he.elim (allExchanges_exchanges _ _ e) (allExchanges_receives _ e)

/-- One exchange per byte: the six of the frame, the fillers and the response. -/
theorem Answer.trace_length (a : Answer) {command : Instr} (h : a.dropped.length = (encode command).length) :
    (a.trace command).length = a.bytes.length := by
  simp only [Answer.trace, exchanges, receives, List.length_append, List.length_zipWith, List.length_map,
    Answer.bytes_length, h]
  omega

end Sys2Proof.Machine
end

