-- ==== Sys2Proof/Tests/Slice0.lean ====
section
/-!
SUPPORT. The model's own tests: terms WellFormed refuses, words written out from the spec's encodings and what the decoder
makes of them, single steps with the results of spec/95_test_vectors.md, and for every statement with hypotheses a state
and operands that meet them.
-/

namespace Sys2Proof.Tests

open Sys2Proof.Machine

/-! ### States and answers -/

/-- The sample parameter values of spec/95_test_vectors.md. -/
def sample : Params := ⟨8, 8, 10, false, 250, 2⟩

/-- An operation at a program point, with what the environment will answer. -/
def stateAt (q : Seq) (env : List Byte) : State :=
  { State.reset with seq := q, busy := true, params := sample, env := env }

/-- A Ready session at IDLE, with what the host will do and the environment will answer. -/
def readyState (moves : List HostMove) (env : List Byte) : State :=
  { State.reset with
    phase := .ready
    cs := { versionClass := .v2, capacityClass := .known .high, writeProtected := false }
    params := sample
    hostQ := moves
    env := env }

/-- A READ_BLOCK about to end: a state that is consistent and not idle. -/
def closing : State :=
  { readyState [] [] with seq := .rDesel, busy := true, op := 2#2, trace := [.sel, .x 0xFF#8 0x00#8] }

/-- The next state of an outcome. -/
def nextOf (o : Host.Outcome State Fault Refusal) : Option State :=
  match o with
  | .next t => some t
  | .fault _ => none
  | .refused _ => none

/-- A register of the next state. -/
def after {α : Type} (f : State → α) (o : Host.Outcome State Fault Refusal) : Option α := (nextOf o).map f

/-- 512 payload bytes, all the same. -/
def block : List Byte := List.replicate 512 0xA5#8

theorem block_length : block.length = 512 := List.length_replicate

theorem block_drop (l : List Byte) : (block ++ l).drop 512 = l := by
  rw [← block_length, List.drop_left]

theorem block_take (l : List Byte) : (block ++ l).take 512 = block := by
  rw [← block_length, List.take_left]

/-- The buffer of program P3: cell j holds 7 j + 3 modulo 256. -/
def ramp : List Byte := (List.range 512).map (fun j => BitVec.ofNat 8 (7 * j + 3))

theorem ramp_length : ramp.length = 512 := by simp only [ramp, List.length_map, List.length_range]

/-! ### Ill-formed terms (WellFormed) -/

/-- R94: the byte that ends the busy-wait is not zero. -/
theorem test_illformed_r1b : (Instr.r1b 0#7 3 0x00#8).wellFormed = false := by decide

/-- R157: no second status byte beside the illegal-command bit. -/
theorem test_illformed_r2 : (Instr.r2 0x04#7 0x01#8).wellFormed = false := by decide

/-- R157: no payload beside the illegal-command bit. -/
theorem test_illformed_r3 : (Instr.r3 0x05#7 ⟨0#8, 0#8, 0#8, 1#8⟩).wellFormed = false := by decide

/-- R157: no payload beside the illegal-command bit. -/
theorem test_illformed_r7 : (Instr.r7 0x05#7 ⟨0#8, 0#8, 1#8, 0xAA#8⟩).wellFormed = false := by decide

/-- R99: a read block has 512 payload bytes. -/
theorem test_illformed_readData : (Instr.readData (List.replicate 511 0#8) 0#8 0#8).wellFormed = false := by
  simp only [Instr.wellFormed, Config.blockSize, List.length_replicate]
  rfl

/-- R100: a written block has 512 payload bytes. -/
theorem test_illformed_writeData : (Instr.writeData (List.replicate 513 0#8)).wellFormed = false := by
  simp only [Instr.wellFormed, Config.blockSize, List.length_replicate]
  rfl

/-! ### Words of every instruction, from R90 to R104 and vectors V-E1 to V-E12 -/

theorem test_decode_cmd0 :
    decode .command [0b01000000#8, 0x00#8, 0x00#8, 0x00#8, 0x00#8, 0b10010101#8] = .ok (.cmd0, []) := by decide

theorem test_decode_cmd8 :
    decode .command [0b01001000#8, 0x00#8, 0x00#8, 0x01#8, 0xAA#8, 0b10000111#8] = .ok (.cmd8, []) := by decide

theorem test_decode_cmd13 :
    decode .command [0b01001101#8, 0x00#8, 0x00#8, 0x00#8, 0x00#8, 0xFF#8] = .ok (.cmd13, []) := by decide

theorem test_decode_cmd16 :
    decode .command [0b01010000#8, 0x00#8, 0x00#8, 0x02#8, 0x00#8, 0xFF#8] = .ok (.cmd16, []) := by decide

theorem test_decode_cmd17 :
    decode .command [0b01010001#8, 0x00#8, 0x00#8, 0x06#8, 0x00#8, 0xFF#8] = .ok (.cmd17 0x00000600#32, []) := by
  decide

theorem test_decode_cmd24 :
    decode .command [0b01011000#8, 0x12#8, 0x34#8, 0x56#8, 0x78#8, 0xFF#8] = .ok (.cmd24 0x12345678#32, []) := by
  decide

theorem test_decode_cmd55 :
    decode .command [0b01110111#8, 0x00#8, 0x00#8, 0x00#8, 0x00#8, 0xFF#8] = .ok (.cmd55, []) := by decide

theorem test_decode_acmd41 :
    decode .command [0b01101001#8, 0b01000000#8, 0x00#8, 0x00#8, 0x00#8, 0xFF#8] = .ok (.acmd41 true, []) ∧
    decode .command [0b01101001#8, 0x00#8, 0x00#8, 0x00#8, 0x00#8, 0xFF#8] = .ok (.acmd41 false, []) := by decide

theorem test_decode_cmd58 :
    decode .command [0b01111010#8, 0x00#8, 0x00#8, 0x00#8, 0x00#8, 0xFF#8] = .ok (.cmd58, []) := by decide

/-- R93: a byte with bit 7 set, on any response channel. -/
theorem test_decode_filler :
    decode (.response .r1) [0b10000000#8] = .ok (.filler 0b0000000#7, []) ∧
    decode (.response .r7) [0b11000001#8, 0x01#8] = .ok (.filler 0b1000001#7, [0x01#8]) := by decide

theorem test_decode_r1 : decode (.response .r1) [0b01111111#8] = .ok (.r1 0b1111111#7, []) := by decide

/-- V-RD7, without its filler. -/
theorem test_decode_r1b :
    decode (.response .r1b) [0x00#8, 0x00#8, 0x00#8, 0xFF#8] = .ok (.r1b 0#7 2 0xFF#8, []) := by decide

/-- V-RD14 and V-RD12. -/
theorem test_decode_r2 :
    decode (.response .r2) [0b01111011#8, 0x20#8] = .ok (.r2 0b1111011#7 0x20#8, []) ∧
    decode (.response .r2) [0b00000100#8, 0x20#8] = .ok (.r2 0b0000100#7 0x00#8, [0x20#8]) := by decide

/-- V-RD18. -/
theorem test_decode_r3 :
    decode (.response .r3) [0x01#8, 0x12#8, 0x34#8, 0x56#8, 0x78#8] =
      .ok (.r3 0x01#7 ⟨0x12#8, 0x34#8, 0x56#8, 0x78#8⟩, []) := by decide

/-- V-RD20. -/
theorem test_decode_r7 :
    decode (.response .r7) [0x05#8] = .ok (.r7 0x05#7 ⟨0x00#8, 0x00#8, 0x00#8, 0x00#8⟩, []) := by decide

theorem test_decode_startToken : decode .token [0b11111110#8] = .ok (.startToken, []) := by decide

/-- R99: 0xFE, 512 payload bytes, two CRC bytes of any value. -/
theorem test_decode_readData :
    decode .dataIn (0b11111110#8 :: (block ++ [0x12#8, 0x34#8])) = .ok (.readData block 0x12#8 0x34#8, []) :=
  decode_dataIn block 0x12#8 0x34#8 block_length []

/-- R100: 0xFE, 512 payload bytes, 0xFF, 0xFF. -/
theorem test_decode_writeData :
    decode .dataOut (0b11111110#8 :: (block ++ [0xFF#8, 0xFF#8])) = .ok (.writeData block, []) := by
  simp only [decode, decodeDataOut, Config.blockSize, block_drop, block_take]
  rfl

/-- V-A10: bits 7:5 apart from the code. -/
theorem test_decode_dataResp : decode .dataResp [0b11101011#8] = .ok (.dataResp 0b111#3 0b01011#5, []) := by decide

theorem test_decode_hostOps :
    decode .host [0x00#8] = .ok (.nop, []) ∧ decode .host [0x01#8] = .ok (.init, []) ∧
    decode .host [0x02#8, 0x00#8, 0x00#8, 0x00#8, 0x07#8] = .ok (.readBlock 7#32, []) ∧
    decode .host [0x03#8, 0x12#8, 0x34#8, 0x56#8, 0x78#8] = .ok (.writeBlock 0x12345678#32, []) := by decide

/-- What is no word of its channel is rejected by name: each bit pattern R90, R92, R99, R100, R104 rule out. -/
theorem test_decode_rejects :
    decode .command [0x00#8, 0x00#8, 0x00#8, 0x00#8, 0x00#8, 0x95#8] = .error .noFrameStart ∧
    decode .command [0xC0#8, 0x00#8, 0x00#8, 0x00#8, 0x00#8, 0x95#8] = .error .noFrameStart ∧
    decode .command [0x40#8, 0x00#8, 0x00#8, 0x00#8, 0x00#8, 0x94#8] = .error .noEndBit ∧
    decode .command [0x41#8, 0x00#8, 0x00#8, 0x00#8, 0x00#8, 0xFF#8] = .error .opcodeNotInSet ∧
    decode .command [0x69#8, 0x80#8, 0x00#8, 0x00#8, 0x00#8, 0xFF#8] = .error .argumentNotOfCommand ∧
    decode .command [0x40#8, 0x00#8, 0x00#8, 0x00#8, 0x00#8, 0xFF#8] = .error .crcNotOfCommand ∧
    decode .command [0x40#8] = .error .truncated ∧
    decode (.response .r1b) [0x00#8, 0x00#8] = .error .truncated ∧
    decode .token [0xFF#8] = .error .notStartToken ∧
    decode .host [0x04#8] = .error .notHostOperation := by decide

/-- R100: the dummy CRC is 0xFF 0xFF. -/
theorem test_decode_writeData_crc :
    decode .dataOut (0xFE#8 :: (block ++ [0xFF#8, 0xFE#8])) = .error .crcNotDummy := by
  simp only [decode, decodeDataOut, Config.blockSize, block_drop]
  rfl

/-! ### Table words (spec/opcode_table.json, its "match" column) -/

theorem test_table_words :
    decodeTableWord 48 0x400000000095 = some .cmd0 ∧ decodeTableWord 48 0x48000001AA87 = some .cmd8 ∧
    decodeTableWord 48 0x5800000000FF = some (.cmd24 0#32) ∧
    decodeTableWord 8 0x80 = some (.filler 0#7) ∧ decodeTableWord 8 0x40 = some (.r1 0x40#7) ∧
    decodeTableWord 16 0x0000 = some (.r2 0#7 0#8) ∧
    decodeTableWord 40 0x0000000000 = some (.r3 0#7 ⟨0#8, 0#8, 0#8, 0#8⟩) ∧
    decodeTableWord 8 0xFE = some .startToken ∧ decodeTableWord 8 0x05 = some (.dataResp 0#3 5#5) ∧
    decodeTableWord 8 0 = some .nop ∧ decodeTableWord 8 1 = some .init ∧
    decodeTableWord 8 2 = some (.readBlock 0#32) ∧ decodeTableWord 8 3 = some (.writeBlock 0#32) ∧
    decodeTableWord 48 0x000000000000 = none := by decide

/-- A word placed for the next step is the instruction that step runs. -/
theorem test_placed_words :
    after (fun t => t.frame.bytes) (step (State.reset.withFetchWord 48 0x4D00000000FF)) =
      some [0x4D#8, 0x00#8, 0x00#8, 0x00#8, 0x00#8, 0xFF#8] ∧
    after State.dresp (step (State.reset.withFetchWord 8 0xE5)) = some 0xE5#8 ∧
    after State.seq (step (State.reset.withFetchWord 8 0xFE)) = some .rData ∧
    after State.op (step (State.reset.withFetchWord 8 1)) = some 1#2 ∧
    after State.resCode (step (State.reset.withFetchWord 8 2)) = some .notInitialized := by decide

/-! ### Single steps (spec/95_test_vectors.md) -/

/-- R133, V-I1: the six bytes of command 0, byte 0 first, then the response is read. -/
theorem test_step_cmd0 :
    after State.trace (step (stateAt .i1Send (List.replicate 6 0xFF#8))) =
      some [.x 0x40#8 0xFF#8, .x 0x00#8 0xFF#8, .x 0x00#8 0xFF#8, .x 0x00#8 0xFF#8, .x 0x00#8 0xFF#8,
        .x 0x95#8 0xFF#8] ∧
    after State.seq (step (stateAt .i1Send [])) = some .i1Resp := by decide

/-- V-E2. -/
theorem test_step_cmd8 :
    after (fun t => t.frame.bytes) (step (stateAt .i2Send [])) =
      some [0x48#8, 0x00#8, 0x00#8, 0x01#8, 0xAA#8, 0x87#8] := by decide

/-- V-E3. -/
theorem test_step_cmd13 :
    after (fun t => t.frame.bytes) (step (stateAt .wStSend [])) =
      some [0x4D#8, 0x00#8, 0x00#8, 0x00#8, 0x00#8, 0xFF#8] := by decide

/-- V-E4. -/
theorem test_step_cmd16 :
    after (fun t => t.frame.bytes) (step (stateAt .i6Send [])) =
      some [0x50#8, 0x00#8, 0x00#8, 0x02#8, 0x00#8, 0xFF#8] := by decide

/-- V-E8 with command 17: the most significant byte of the argument first. -/
theorem test_step_cmd17 :
    after (fun t => t.frame.bytes) (step { stateAt .rSend [] with addr := 0x12345678#32 }) =
      some [0x51#8, 0x12#8, 0x34#8, 0x56#8, 0x78#8, 0xFF#8] := by decide

/-- V-E7. -/
theorem test_step_cmd24 :
    after (fun t => t.frame.bytes) (step { stateAt .wSend [] with addr := 0x00000600#32 }) =
      some [0x58#8, 0x00#8, 0x00#8, 0x06#8, 0x00#8, 0xFF#8] := by decide

/-- V-E9. -/
theorem test_step_cmd55 :
    after (fun t => t.frame.bytes) (step (stateAt .i4aSend [])) =
      some [0x77#8, 0x00#8, 0x00#8, 0x00#8, 0x00#8, 0xFF#8] := by decide

/-- V-E10: command 41 for a V2 card. -/
theorem test_step_acmd41_v2 :
    after (fun t => t.frame.bytes) (step { stateAt .i4bSend [] with cs := ⟨.v2, .unknown, false⟩ }) =
      some [0x69#8, 0x40#8, 0x00#8, 0x00#8, 0x00#8, 0xFF#8] := by decide

/-- V-E11: command 41 for a Legacy card. -/
theorem test_step_acmd41_legacy :
    after (fun t => t.frame.bytes) (step { stateAt .i4bSend [] with cs := ⟨.legacy, .unknown, false⟩ }) =
      some [0x69#8, 0x00#8, 0x00#8, 0x00#8, 0x00#8, 0xFF#8] := by decide

/-- V-E12, in step 3 and in step 5. -/
theorem test_step_cmd58 :
    after (fun t => t.frame.bytes) (step (stateAt .i3Send [])) =
      some [0x7A#8, 0x00#8, 0x00#8, 0x00#8, 0x00#8, 0xFF#8] ∧
    after (fun t => t.frame.bytes) (step (stateAt .i5Send [])) =
      some [0x7A#8, 0x00#8, 0x00#8, 0x00#8, 0x00#8, 0xFF#8] := by decide

/-- V-RD3: a byte with bit 7 set is a filler even if it is not 0xFF. -/
theorem test_step_filler :
    after State.seq (step (stateAt .i6Resp [0xC1#8, 0x00#8])) = some .i6Resp ∧
    after State.pollCnt (step (stateAt .i6Resp [0xC1#8, 0x00#8])) = some 1 := by decide

/-- V-I23: after the last poll of the budget the reader's Timeout in step 4 is BusError. -/
theorem test_step_filler_last :
    after State.seq (step { stateAt .i4aResp [0xFF#8] with pollCnt := 9999 }) = some (.fail .busError) := by decide

/-- V-I3: bit 0 alone is tested in step 1. -/
theorem test_step_r1_reset : after State.seq (step (stateAt .i1Resp [0x05#8])) = some .i2Send := by decide

/-- V-I22: bit 0 clear leaves the loop of step 4, even with the illegal-command bit set. -/
theorem test_step_r1_acmd41 :
    after State.seq (step { stateAt .i4bResp [0x04#8] with cs := ⟨.v2, .unknown, false⟩ }) = some .i5Send := by decide

/-- V-RD9: one status byte, then BUSY_BUDGET = 8 zero bytes, is a Timeout, here of command 16. -/
theorem test_exec_r1b_timeout :
    after State.seq (exec (.r1b 0x01#7 8 0xFF#8) (stateAt .i6Resp [])) = some (.fail .timeout) ∧
    after (fun t => t.trace.length) (exec (.r1b 0x01#7 8 0xFF#8) (stateAt .i6Resp [])) = some 9 := by decide

/-- V-RD8: any non-zero byte ends the wait. -/
theorem test_exec_r1b :
    after State.status (exec (.r1b 0x00#7 0 0x01#8) (stateAt .idle [])) = some 0x00#8 ∧
    after (fun t => t.trace.length) (exec (.r1b 0x00#7 0 0x01#8) (stateAt .idle [])) = some 2 := by decide

/-- V-W7: the second byte is not zero. -/
theorem test_step_r2 :
    after State.seq (step (stateAt .wStResp [0x00#8, 0x01#8])) = some (.fail .cardStatusError) ∧
    after State.status2 (step (stateAt .wStResp [0x00#8, 0x01#8])) = some 0x01#8 := by decide

/-- V-W9: the short response; the byte after it is not read. -/
theorem test_step_r2_short :
    after State.seq (step (stateAt .wStResp [0x04#8, 0x00#8])) = some (.fail .cardStatusError) ∧
    after State.env (step (stateAt .wStResp [0x04#8, 0x00#8])) = some [0x00#8] := by decide

/-- V-I16: bits 23:15 all zero, every other bit of the payload set but one. -/
theorem test_step_r3_window :
    after State.seq (step (stateAt .i3Resp [0x01#8, 0xC0#8, 0x00#8, 0x7F#8, 0xFF#8])) = some (.fail .voltageMismatch) ∧
    after State.seq (step (stateAt .i3Resp [0x01#8, 0x00#8, 0x00#8, 0x80#8, 0x00#8])) = some .i4aSend := by decide

/-- V-I28 and V-I27: bit 30 alone is read. -/
theorem test_step_r3_capacity :
    after State.capPending (step (stateAt .i5Resp [0x00#8, 0x40#8, 0x00#8, 0x00#8, 0x00#8])) = some .high ∧
    after State.capPending (step (stateAt .i5Resp [0x00#8, 0x80#8, 0xFF#8, 0x80#8, 0x00#8])) = some .standard := by
  decide

/-- V-I12 and V-I11: payload bits 31:12 are not tested, the voltage nibble is. -/
theorem test_step_r7 :
    after (fun t => t.cs.versionClass) (step (stateAt .i2Resp [0x01#8, 0xFF#8, 0xFF#8, 0xF1#8, 0xAA#8])) = some .v2 ∧
    after State.seq (step (stateAt .i2Resp [0x01#8, 0x00#8, 0x00#8, 0x02#8, 0xAA#8])) =
      some (.fail .patternMismatch) := by decide

/-- V-I8: illegal command, payload not read. -/
theorem test_step_r7_legacy :
    after (fun t => t.cs.versionClass) (step (stateAt .i2Resp [0x05#8, 0x77#8])) = some .legacy ∧
    after State.env (step (stateAt .i2Resp [0x05#8, 0x77#8])) = some [0x77#8] := by decide

/-- V-B7: 0x09 is skipped, 0xFE is taken. -/
theorem test_step_startToken :
    after State.seq (step (stateAt .rToken [0x09#8])) = some .rToken ∧
    after State.seq (step (stateAt .rToken [0xFE#8])) = some .rData ∧
    after State.trace (step (stateAt .wToken [0x33#8])) = some [.x 0xFE#8 0x33#8] := by decide

/-- R213, program P3: the bytes received fill the buffer in ascending order. -/
theorem test_exec_readData :
    after (fun t => (Memory.read t.buf 0, Memory.read t.buf 1, Memory.read t.buf 511))
      (exec (.readData ramp 0x12#8 0x34#8) (stateAt .rData [])) = some (some 0x03#8, some 0x0A#8, some 0xFC#8) := by
  rw [exec_readData]
  have h (k : Nat) (hk : k < 512) :
      Memory.read (Memory.writeBytes [] 0 ramp) k = some (BitVec.ofNat 8 (7 * k + 3)) := by
    have := Memory.read_writeBytes_inside ramp [] 0 k (by rw [ramp_length]; exact hk)
    rw [Nat.zero_add] at this
    rw [this, ramp, List.getElem?_map, List.getElem?_range hk]
    rfl
  simp only [after, nextOf, Option.map_some, stateAt, State.reset, h 0 (by decide), h 1 (by decide), h 511 (by decide)]
  rfl

/-- V-W1: 514 exchanges, and the data response is read next. -/
theorem test_exec_writeData :
    after (fun t => (t.trace.length, t.seq)) (exec (.writeData block) (stateAt .wData [])) = some (514, .wDresp) := by
  rw [exec_writeData]
  simp only [after, nextOf, Option.map_some, stateAt, State.reset, exchanges, List.nil_append, List.length_zipWith,
    List.length_append, envBytes_length, block_length]
  rfl

/-- V-A9 and V-A5: bit 4 is part of the test, bits 7:5 are not. -/
theorem test_step_dataResp :
    after State.seq (step (stateAt .wDresp [0x15#8])) = some (.fail (.writeRejected 0x15#5)) ∧
    after State.seq (step (stateAt .wDresp [0xE5#8])) = some .wBusy := by decide

/-- V-W6: with BUSY_BUDGET = 8 the eighth zero byte is a Timeout; any other byte releases. -/
theorem test_step_busy :
    after State.seq (step { stateAt .wBusy [0x00#8] with busyCnt := 7 }) = some (.fail .timeout) ∧
    after State.seq (step { stateAt .wBusy [0x00#8] with busyCnt := 6 }) = some .wBusy ∧
    after State.seq (step { stateAt .wBusy [0x01#8] with busyCnt := 7 }) = some .wStSend := by decide

/-- R104: operation code 0 changes no register. -/
theorem test_step_nop :
    step { State.reset with hostQ := [.request 0#2 9#32] } = .next State.reset := by rfl

/-- R181, program P6: INIT after a failed INIT starts a fresh session. -/
theorem test_step_init :
    after (fun t => (t.busy, t.phase, t.cs.versionClass))
      (step { State.reset with phase := .failed, cs := ⟨.v2, .unknown, false⟩, hostQ := [.request 1#2 0#32] }) =
      some (true, .uninit, .unknown) := by decide

/-- V-G1: READ 7 in the phase Uninit. -/
theorem test_step_readBlock_uninit :
    after (fun t => (t.resCode.bits, t.busy, t.trace.length))
      (step { State.reset with hostQ := [.request 2#2 7#32] }) = some (7#4, false, 0) := by decide

/-- V-G2: WRITE 7 in the phase Failed. -/
theorem test_step_writeBlock_failed :
    after (fun t => (t.resCode.bits, t.phase))
      (step { State.reset with phase := .failed, hostQ := [.request 3#2 7#32] }) = some (7#4, .failed) := by decide

/-- V-T5, V-T6, V-T7. -/
theorem test_translate :
    translateIndex .standard 0x007FFFFF#32 = 0xFFFFFE00#32 ∧ translateIndex .standard 0x00800000#32 = 0x00000000#32 ∧
    translateIndex .standard 0xFFFFFFFF#32 = 0xFFFFFE00#32 := by decide

/-- V-E13 to V-E16. -/
theorem test_encode :
    (encodeFrame 63#6 0xFFFFFFFF#32 0x7F#7).bytes = [0x7F#8, 0xFF#8, 0xFF#8, 0xFF#8, 0xFF#8, 0xFF#8] ∧
    (encodeFrame 63#6 0xFFFFFFFF#32 0#7).bytes = [0x7F#8, 0xFF#8, 0xFF#8, 0xFF#8, 0xFF#8, 0x01#8] ∧
    (encodeFrame 1#6 0x12345678#32 0x55#7).bytes = [0x41#8, 0x12#8, 0x34#8, 0x56#8, 0x78#8, 0xAB#8] ∧
    (encodeFrame 0#6 0#32 0#7).bytes = [0x40#8, 0x00#8, 0x00#8, 0x00#8, 0x00#8, 0x01#8] := by decide

/-- V-I35, program P7: the two exits of INIT. -/
theorem test_step_exits :
    after (fun t => (t.cs.capacityClass, t.phase))
      (step { stateAt .iDone [] with capPending := .high, op := 1#2 }) = some (.known .high, .ready) ∧
    after (fun t => (t.resCode.bits, t.phase, t.failReason, t.cs.capacityClass))
      (step { stateAt (.fail .busError) [] with op := 1#2 }) = some (8#4, .failed, .busError, .unknown) := by decide

/-- Program P5: the exit of a rejected write. -/
theorem test_step_rejected :
    after (fun t => (t.resCode.bits, t.resInfo, t.phase))
      (step { readyState [] [] with seq := .fail (.writeRejected 0x0B#5), busy := true, op := 3#2 }) =
      some (5#4, 0x0B#5, .ready) := by decide

/-! ### Witnesses: a state and operands that meet the hypotheses of a statement

One theorem per statement with hypotheses, one conjunct per clause, at a boundary of its range. -/

/-- Both sides of the illegal-command bit, the busy-wait of the least length, blocks of 512 bytes. -/
theorem witness_DecodeOfEncodeIsTheInstruction :
    Instr.wellFormed (.cmd17 0xFFFFFFFF#32) = true ∧ Instr.wellFormed (.r1b 0x7F#7 0 0x01#8) = true ∧
    Instr.wellFormed (.r2 0x04#7 0x00#8) = true ∧ Instr.wellFormed (.r2 0x7B#7 0xFF#8) = true ∧
    Instr.wellFormed (.r3 0x05#7 ⟨0#8, 0#8, 0#8, 0#8⟩) = true ∧ Instr.wellFormed (.readData block 0#8 0#8) = true ∧
    Instr.wellFormed (.writeData block) = true := by
  refine ⟨rfl, rfl, rfl, rfl, rfl, ?_, ?_⟩ <;> simp only [Instr.wellFormed, block_length] <;> rfl

theorem witness_EncodeOfDecodeIsTheWord :
    decode (.response .r7) [0x01#8, 0x00#8, 0x00#8, 0x01#8, 0xAA#8, 0x77#8] =
      .ok (.r7 0x01#7 ⟨0x00#8, 0x00#8, 0x01#8, 0xAA#8⟩, [0x77#8]) := by decide

/-- A payload of 512 bytes, for the read and for the written block. -/
theorem witness_SpecWordsDecode : block.length = 512 := block_length

theorem witness_FrameFieldsReadBack : encodeFrame 0#6 0#32 0#7 = encodeFrame (64 : BitVec 6) 0#32 0#7 := by decide

theorem witness_Acmd41FollowsTheVersionClass :
    ({ stateAt .i4bSend [] with cs := ⟨.v2, .unknown, false⟩ } : State).seq = .i4bSend ∧
    ({ stateAt .i4bSend [] with cs := ⟨.v2, .unknown, false⟩ } : State).cs.versionClass = .v2 ∧
    ({ stateAt .i4bSend [] with cs := ⟨.legacy, .unknown, false⟩ } : State).seq = .i4bSend ∧
    ({ stateAt .i4bSend [] with cs := ⟨.legacy, .unknown, false⟩ } : State).cs.versionClass = .legacy := by decide

/-- The last poll but one of the budget. -/
theorem witness_FillerIsPolledAgain :
    ({ stateAt .i6Resp [] with pollCnt := 9998 } : State).pollCnt + 1 < 10000 := by decide

/-- The last poll of the budget, at a point with a reason and in step 1, there on the last attempt but one and on the
last. -/
theorem witness_LastFillerIsTheTimeout :
    (({ stateAt .i4aResp [] with pollCnt := 9999 } : State).pollCnt + 1 = 10000 ∧
      ({ stateAt .i4aResp [] with pollCnt := 9999 } : State).seq.timeoutReason = some .busError) ∧
    (({ stateAt .i1Resp [] with pollCnt := 9999, retryCnt := 253 } : State).pollCnt + 1 = 10000 ∧
      ({ stateAt .i1Resp [] with pollCnt := 9999, retryCnt := 253 } : State).seq = .i1Resp ∧
      ({ stateAt .i1Resp [] with pollCnt := 9999, retryCnt := 253 } : State).retryCnt + 1 < 255) ∧
    (({ stateAt .i1Resp [] with pollCnt := 9999, retryCnt := 254 } : State).seq = .i1Resp ∧
      ¬ ({ stateAt .i1Resp [] with pollCnt := 9999, retryCnt := 254 } : State).retryCnt + 1 < 255) := by decide

/-- Every status bit but the illegal-command bit, and that bit alone. -/
theorem witness_TokenRegistersHoldTheResponse :
    BitVec.getLsbD 0x7B#7 2 = false ∧ BitVec.getLsbD 0x04#7 2 = true := by decide

/-- With BUSY_BUDGET = 8: 7 zero bytes end in a token, 8 in a Timeout; and a point that reads no response. -/
theorem witness_BusyResponseIsBounded :
    (0x01#8 ≠ 0#8 ∧ 7 < (stateAt .i6Resp []).params.busyBudget) ∧
    ((stateAt .i6Resp []).params.busyBudget ≤ 8 ∧ (stateAt .i6Resp []).seq.timeoutReason = some .timeout) ∧
    ((stateAt .wBusy []).seq.readerShape = none ∧
      (nextOf (exec (.r1b 0x00#7 0 0x01#8) (stateAt .wBusy []))).isSome = true) := by decide

/-- The greatest number of fillers that is skipped. -/
theorem witness_FillersBeforeTheStatusAreSkipped :
    (stateAt .i1Resp (List.replicate 9999 0xFF#8 ++ [0x01#8])).seq.readerShape ≠ none ∧
    (stateAt .i1Resp (List.replicate 9999 0xFF#8 ++ [0x01#8])).pollCnt = 0 ∧
    (∀ b ∈ List.replicate 9999 0xFF#8, BitVec.getLsbD b 7 = true) ∧
    (List.replicate 9999 0xFF#8).length < 10000 := by
  refine ⟨nofun, rfl, ?_, ?_⟩
  · intro b hb
    rw [List.eq_of_mem_replicate hb]
    rfl
  · rw [List.length_replicate]
    decide

/-- In a step with a reason, and in step 1. -/
theorem witness_ReaderTimeoutIsExact :
    (stateAt .rResp (List.replicate 10000 0xFF#8)).seq.readerShape ≠ none ∧
    (stateAt .rResp (List.replicate 10000 0xFF#8)).seq.timeoutReason = some .busError ∧
    (stateAt .i1Resp (List.replicate 10000 0xFF#8)).seq.readerShape ≠ none ∧
    (stateAt .rResp (List.replicate 10000 0xFF#8)).pollCnt = 0 ∧
    (∀ b ∈ List.replicate 10000 0xFF#8, BitVec.getLsbD b 7 = true) ∧
    (List.replicate 10000 0xFF#8).length = 10000 := by
  refine ⟨nofun, rfl, nofun, rfl, ?_, List.length_replicate⟩
  intro b hb
  rw [List.eq_of_mem_replicate hb]
  rfl

theorem witness_ResponsesLeaveTheRestAlone :
    (nextOf (exec (.filler 0#7) (stateAt .i6Resp []))).isSome = true ∧
    (nextOf (exec (.r1 0#7) (stateAt .i6Resp []))).isSome = true ∧
    (nextOf (exec (.r1b 0#7 8 0x01#8) (stateAt .i6Resp []))).isSome = true ∧
    (nextOf (exec (.r2 0x04#7 0#8) (stateAt .wStResp []))).isSome = true ∧
    (nextOf (exec (.r3 0#7 ⟨0#8, 0#8, 0#8, 0#8⟩) (stateAt .i5Resp []))).isSome = true ∧
    (nextOf (exec (.r7 0#7 ⟨0#8, 0#8, 1#8, 0xAA#8⟩) (stateAt .i2Resp []))).isSome = true := by decide

theorem witness_ResetStepDecides : (stateAt .i1Resp []).seq = .i1Resp := rfl

theorem witness_VoltageCheckDecides : (stateAt .i2Resp []).seq = .i2Resp := rfl

theorem witness_OcrCheckDecides : (stateAt .i3Resp []).seq = .i3Resp := rfl

theorem witness_IdleWaitDecides : (stateAt .i4aResp []).seq = .i4aResp ∧ (stateAt .i4bResp []).seq = .i4bResp :=
  ⟨rfl, rfl⟩

theorem witness_CapacityDetectDecides : (stateAt .i5Resp []).seq = .i5Resp := rfl

theorem witness_BlockLenDecides : (stateAt .i6Resp []).seq = .i6Resp := rfl

theorem witness_BlockCommandStatusDecides : (stateAt .rResp []).seq = .rResp ∧ (stateAt .wResp []).seq = .wResp :=
  ⟨rfl, rfl⟩

theorem witness_CardStatusDecides : (stateAt .wStResp []).seq = .wStResp := rfl

theorem witness_StartTokenIsTakenOrSent : (stateAt .rToken []).seq = .rToken ∧ (stateAt .wToken []).seq = .wToken :=
  ⟨rfl, rfl⟩

/-- The last poll of the token wait and the one before it, with TOKEN_BUDGET = 8. -/
theorem witness_TokenWaitSkipsEveryOtherByte :
    (stateAt .rToken [0x09#8]).seq = .rToken ∧ envBytes 1 (stateAt .rToken [0x09#8]) = [0x09#8] ∧
    0x09#8 ≠ 0xFE#8 ∧ ({ stateAt .rToken [] with tokCnt := 6 } : State).tokCnt + 1 < sample.tokenBudget ∧
    ¬ ({ stateAt .rToken [] with tokCnt := 7 } : State).tokCnt + 1 < sample.tokenBudget :=
  ⟨rfl, envBytes_of_script [0x09#8] [] rfl rfl, by decide, by decide, by decide⟩

/-- A block, and the first and the last cell and the first address after them. -/
theorem witness_ReadDataFillsTheBuffer : block.length = 512 ∧ 0 < 512 ∧ 511 < 512 ∧ 512 ≤ 512 :=
  ⟨block_length, by decide, by decide, by decide⟩

theorem witness_WriteDataSendsTheBuffer :
    block.length = 512 ∧ (stateAt .wData []).seq = .wData ∧
    Memory.read ({ stateAt .wData [] with buf := [(511, 0xFC#8)] } : State).buf 511 = some 0xFC#8 :=
  ⟨block_length, rfl, rfl⟩

/-- A released bus, the last poll of the busy-wait and the one before it, with BUSY_BUDGET = 8. -/
theorem witness_BusyWaitPolls :
    (stateAt .wBusy [0x00#8]).seq = .wBusy ∧ envBytes 1 (stateAt .wBusy [0x00#8]) = [0x00#8] ∧
    envBytes 1 (stateAt .wBusy [0x01#8]) = [0x01#8] ∧
    ({ stateAt .wBusy [] with busyCnt := 6 } : State).busyCnt + 1 < sample.busyBudget ∧
    ¬ ({ stateAt .wBusy [] with busyCnt := 7 } : State).busyCnt + 1 < sample.busyBudget :=
  ⟨rfl, envBytes_of_script [0x00#8] [] rfl rfl, envBytes_of_script [0x01#8] [] rfl rfl, by decide, by decide⟩

theorem witness_RequestCodesAndIgnoredRequests : (stateAt .rSend []).busy = true := rfl

theorem witness_InitStartsAFreshSession : (readyState [] []).busy = false := rfl

theorem witness_InitSetsTheClockThenSelects : (stateAt .iClk []).seq = .iClk := rfl

theorem witness_BlockOperationsNeedReady : State.reset.busy = false ∧ State.reset.phase ≠ .ready := ⟨rfl, nofun⟩

theorem witness_BlockOperationsStart : (readyState [] []).busy = false ∧ (readyState [] []).phase = .ready :=
  ⟨rfl, rfl⟩

/-- Each of the two points with each of the three classes. -/
theorem witness_BlockOperationsSelectAndTranslate :
    (stateAt .rSel []).seq = .rSel ∧ (stateAt .wSel []).seq = .wSel ∧
    (stateAt .rSel []).cs.capacityClass = .unknown ∧
    ({ stateAt .rSel [] with cs := ⟨.legacy, .known .standard, false⟩ } : State).cs.capacityClass = .known .standard ∧
    ({ stateAt .wSel [] with cs := ⟨.v2, .known .high, false⟩ } : State).cs.capacityClass = .known .high :=
  ⟨rfl, rfl, rfl, rfl, rfl⟩

/-- V-T5: the greatest index whose product fits 32 bits. -/
theorem witness_TranslateLaw : BitVec.toNat 0x007FFFFF#32 < 2 ^ 23 := by decide

/-- The Ready transition itself, and INIT accepted in a consistent Ready session. -/
theorem witness_InitSucceeds :
    (stateAt .iDone []).seq = .iDone ∧ (stateAt .iDone []).phase ≠ .ready ∧
    (stateAt .iDone []).cs.capacityClass = .unknown ∧ after State.phase (step (stateAt .iDone [])) = some .ready ∧
    after (fun t => t.cs.capacityClass) (step (stateAt .iDone [])) = some (.known .standard) ∧
    (readyState [.request 1#2 0#32] []).Inv ∧ (readyState [.request 1#2 0#32] []).phase = .ready ∧
    after State.cs (step (readyState [.request 1#2 0#32] [])) ≠ some (readyState [.request 1#2 0#32] []).cs :=
  ⟨rfl, nofun, rfl, rfl, rfl,
    ⟨by decide, by decide, by decide, rfl, by decide, by decide, rfl, rfl, trivial⟩, rfl, by decide⟩

/-- INIT about to fail in step 1, in a consistent state. -/
def failing : State := { stateAt (.fail .timeout) [] with op := 1#2, trace := [.clk 250, .sel] }

theorem witness_InitFails : failing.seq = .fail .timeout ∧ failing.op = 1#2 ∧ failing.Inv :=
  ⟨rfl, rfl, ⟨by decide, by decide, by decide, rfl, by decide, by decide, rfl, rfl, .inl ⟨rfl, rfl⟩⟩⟩

theorem witness_BlockOperationFails :
    ({ stateAt (.fail (.writeRejected 0x0B#5)) [] with op := 3#2 } : State).seq = .fail (.writeRejected 0x0B#5) ∧
    ({ stateAt (.fail (.writeRejected 0x0B#5)) [] with op := 3#2 } : State).op ≠ 1#2 := ⟨rfl, by decide⟩

theorem witness_BlockOperationSucceeds : (stateAt .rDesel []).seq = .rDesel ∧ (stateAt .wDesel []).seq = .wDesel :=
  ⟨rfl, rfl⟩

/-- The last cell of the buffer. -/
theorem witness_IdleWaitsForTheHost :
    State.reset.seq = .idle ∧ State.reset.hostQ = [] ∧ (readyState [.bufWrite 511#9 0xFC#8] []).busy = false ∧
    (readyState [.bufWrite 511#9 0xFC#8] []).hostQ = .bufWrite 511#9 0xFC#8 :: [] := ⟨rfl, rfl, rfl, rfl⟩

theorem witness_HostReadsOnlyByContract :
    (stateAt .rSend []).busy = true ∧ (stateAt .rSend []).done = false ∧ (readyState [] []).busy = false ∧
    ({ State.reset with phase := .failed } : State).phase = .failed ∧
    Memory.read ({ State.reset with buf := [(511, 0xFC#8)] } : State).buf (BitVec.toNat 511#9) = some 0xFC#8 ∧
    ({ State.reset with done := true, resCode := .writeRejected } : State).done = true ∧
    ({ State.reset with done := true, resCode := .writeRejected } : State).resCode = .writeRejected :=
  ⟨rfl, rfl, rfl, rfl, rfl, rfl, rfl⟩

/-- A request; a filler, a short and a full response; the points that send; the token; a block; a data response. -/
theorem witness_StepRunsTheDecodedInstruction :
    ((readyState [.request 2#2 3#32] []).seq = .idle ∧
      (readyState [.request 2#2 3#32] []).hostQ = .request 2#2 3#32 :: []) ∧
    ((stateAt .i2Resp [0x05#8]).seq.readerShape = some .r7 ∧
      decode (.response .r7) (envBytes 1 (stateAt .i2Resp [0x05#8])) = .ok (.r7 0x05#7 ⟨0#8, 0#8, 0#8, 0#8⟩, [])) ∧
    ((stateAt .wStResp [0x00#8, 0x00#8]).seq.readerShape = some .r2 ∧
      decode (.response .r2) (envBytes 2 (stateAt .wStResp [0x00#8, 0x00#8])) = .ok (.r2 0#7 0#8, [])) ∧
    envBytes 1 (stateAt .rToken [0xFE#8]) = [0xFE#8] ∧
    ((stateAt .rData (block ++ [0x12#8, 0x34#8])).seq = .rData ∧
      decode .dataIn (0xFE#8 :: envBytes 514 (stateAt .rData (block ++ [0x12#8, 0x34#8]))) =
        .ok (.readData block 0x12#8 0x34#8, [])) ∧
    ((stateAt .wDresp [0xE5#8]).seq = .wDresp ∧
      decode .dataResp (envBytes 1 (stateAt .wDresp [0xE5#8])) = .ok (.dataResp 0b111#3 0b00101#5, [])) := by
  refine ⟨⟨rfl, rfl⟩, ⟨rfl, ?_⟩, ⟨rfl, ?_⟩, envBytes_of_script [0xFE#8] [] rfl rfl, ⟨rfl, ?_⟩, ⟨rfl, ?_⟩⟩
  · rw [envBytes_of_script (n := 1) (s := stateAt .i2Resp [0x05#8]) [0x05#8] [] rfl rfl]
    decide
  · rw [envBytes_of_script (n := 2) (s := stateAt .wStResp [0x00#8, 0x00#8]) [0x00#8, 0x00#8] [] rfl rfl]
    decide
  · rw [envBytes_of_script (block ++ [0x12#8, 0x34#8]) [] (List.append_nil _).symm
      (by rw [List.length_append, block_length]; rfl)]
    exact test_decode_readData
  · rw [envBytes_of_script (n := 1) (s := stateAt .wDresp [0xE5#8]) [0xE5#8] [] rfl rfl]
    decide

/-- A consistent state in the middle of an operation. -/
theorem closing_inv : closing.Inv :=
  ⟨by decide, by decide, by decide, rfl, by decide, by decide, rfl, rfl, ⟨rfl, rfl⟩⟩

theorem closing_step : (nextOf (step closing)).isSome = true := by decide

theorem witness_StepKeepsConsistency : closing.Inv ∧ (nextOf (step closing)).isSome = true :=
  ⟨closing_inv, closing_step⟩

theorem witness_StepKeepsCountersBelow : closing.CountersBelow ∧ (nextOf (step closing)).isSome = true :=
  ⟨⟨by decide, by decide, by decide, by decide, by decide, by decide⟩, closing_step⟩

theorem witness_ConsistentStatesNeverStop : closing.Inv := closing_inv

/-- INIT after a Ready session, step 2, and the Ready transition: Card State changes in each. -/
theorem witness_CardStateIsWrittenInThreePlaces :
    after State.cs (step (readyState [.request 1#2 0#32] [])) ≠ some (readyState [.request 1#2 0#32] []).cs ∧
    after State.cs (step (stateAt .i2Resp [0x05#8])) ≠ some (stateAt .i2Resp [0x05#8]).cs ∧
    after State.cs (step (stateAt .iDone [])) ≠ some (stateAt .iDone []).cs := by decide

/-- INIT after a Ready session, the Ready transition and the failure exit of INIT: the phase changes in each. -/
theorem witness_PhaseChangesInThreePlaces :
    after State.phase (step (readyState [.request 1#2 0#32] [])) ≠ some .ready ∧
    after State.phase (step (stateAt .iDone [])) ≠ some .uninit ∧
    after State.phase (step { stateAt (.fail .timeout) [] with op := 1#2 }) ≠ some .uninit := by decide

theorem witness_TraceGrowsAndInputsWait : (nextOf (step closing)).isSome = true ∧ closing.seq ≠ .idle :=
  ⟨closing_step, nofun⟩

/-- A cell written by the host, and one written by a read block. -/
theorem witness_BufferIsWrittenInTwoPlaces :
    after State.buf (step (readyState [.bufWrite 0#9 0xFC#8] [])) ≠ some [] ∧
    after State.buf (exec (.readData block 0#8 0#8) (stateAt .rData [])) ≠ some [] := by
  refine ⟨by decide, ?_⟩
  rw [exec_readData]
  intro h
  have h0 := Memory.read_writeBytes_inside block [] 0 0 (by rw [block_length]; decide)
  simp only [after, nextOf, Option.map_some, Option.some.injEq, stateAt, State.reset] at h
  rw [h] at h0
  cases h0

theorem witness_BufferDoesNotSteerTheEngine : (nextOf (step closing)).isSome = true ∧ closing.seq ≠ .wData :=
  ⟨closing_step, nofun⟩

theorem witness_EveryOperationEnds : closing.Inv := closing_inv

/-- Bytes all the same, with a property of that byte. -/
theorem all_replicate {p : Byte → Prop} {n : Nat} {b : Byte} (h : p b) : ∀ c ∈ List.replicate n b, p c := by
  intro c hc
  rw [List.eq_of_mem_replicate hc]
  exact h

/-- The script of a read: the greatest number of fillers, and with TOKEN_BUDGET = 8 the greatest number of skipped
bytes. -/
def readScript : List Byte :=
  List.replicate 6 0xFF#8 ++ List.replicate 9999 0xFF#8 ++ [0x00#8] ++ List.replicate 7 0xFF#8 ++ [0xFE#8] ++ block ++
    [0x12#8, 0x34#8] ++ [0x77#8]

theorem witness_ReadBlockDeliversTheBlock :
    (readyState [.request 2#2 3#32] readScript).seq = .idle ∧
    (readyState [.request 2#2 3#32] readScript).busy = false ∧
    (readyState [.request 2#2 3#32] readScript).phase = .ready ∧
    (readyState [.request 2#2 3#32] readScript).cs.capacityClass = .known .high ∧
    (readyState [.request 2#2 3#32] readScript).hostQ = .request 2#2 3#32 :: [] ∧
    (readyState [.request 2#2 3#32] readScript).env =
      List.replicate 6 0xFF#8 ++ List.replicate 9999 0xFF#8 ++ [0x00#8] ++ List.replicate 7 0xFF#8 ++ [0xFE#8] ++
        block ++ [0x12#8, 0x34#8] ++ [0x77#8] ∧
    (List.replicate 6 0xFF#8).length = 6 ∧ (∀ b ∈ List.replicate 9999 0xFF#8, BitVec.getLsbD b 7 = true) ∧
    (List.replicate 9999 0xFF#8).length < 10000 ∧ (∀ b ∈ List.replicate 7 0xFF#8, b ≠ 0xFE#8) ∧
    (List.replicate 7 0xFF#8).length < sample.tokenBudget ∧ block.length = 512 := by
  refine ⟨rfl, rfl, rfl, rfl, rfl, rfl, List.length_replicate, all_replicate rfl, ?_, all_replicate (by decide), ?_,
    block_length⟩ <;> rw [List.length_replicate] <;> decide

/-- The script of a write: with BUSY_BUDGET = 8 the longest busy-wait, and before both statuses the greatest number of
fillers. -/
def writeScript : List Byte :=
  List.replicate 6 0xFF#8 ++ List.replicate 9999 0xFF#8 ++ [0x00#8] ++ List.replicate 515 0xFF#8 ++
    [0b111#3 ++ 0b00101#5] ++ List.replicate 7 0x00#8 ++ [0x01#8] ++ List.replicate 6 0xFF#8 ++
    List.replicate 9999 0xFF#8 ++ [0x00#8, 0x00#8] ++ [0x77#8]

theorem witness_WriteBlockSendsTheBlock :
    (readyState [.request 3#2 3#32] writeScript).seq = .idle ∧
    (readyState [.request 3#2 3#32] writeScript).busy = false ∧
    (readyState [.request 3#2 3#32] writeScript).phase = .ready ∧
    (readyState [.request 3#2 3#32] writeScript).cs.capacityClass = .known .high ∧
    (readyState [.request 3#2 3#32] writeScript).hostQ = .request 3#2 3#32 :: [] ∧
    (readyState [.request 3#2 3#32] writeScript).env =
      List.replicate 6 0xFF#8 ++ List.replicate 9999 0xFF#8 ++ [0x00#8] ++ List.replicate 515 0xFF#8 ++
        [0b111#3 ++ 0b00101#5] ++ List.replicate 7 0x00#8 ++ [0x01#8] ++ List.replicate 6 0xFF#8 ++
        List.replicate 9999 0xFF#8 ++ [0x00#8, 0x00#8] ++ [0x77#8] ∧
    (List.replicate 6 0xFF#8).length = 6 ∧ (∀ b ∈ List.replicate 9999 0xFF#8, BitVec.getLsbD b 7 = true) ∧
    (List.replicate 9999 0xFF#8).length < 10000 ∧ (List.replicate 515 0xFF#8).length = 515 ∧ 0x01#8 ≠ 0#8 ∧
    7 < sample.busyBudget := by
  refine ⟨rfl, rfl, rfl, rfl, rfl, rfl, List.length_replicate, all_replicate rfl, ?_, List.length_replicate, by decide,
    by decide⟩
  rw [List.length_replicate]
  decide

/-- An answer with `n` fillers before the response: what is dropped and the fillers are 0xFF. -/
def answer (n : Nat) (response : List Byte) : Answer := ⟨List.replicate 6 0xFF#8, List.replicate n 0xFF#8, response⟩

theorem answer_timely {n : Nat} (h : n < 10000) (response : List Byte) : (answer n response).Timely :=
  ⟨List.length_replicate, all_replicate rfl, by simpa only [answer, List.length_replicate] using h⟩

/-- What the environment answers in the round trip: before the three statuses the greatest, some and no fillers; with
BUSY_BUDGET = 8 and TOKEN_BUDGET = 8 the longest busy-wait and the longest token wait. -/
def tripEnv (block : List Byte) : List Byte :=
  (answer 9999 [0x00#8]).bytes ++ List.replicate 515 0xFF#8 ++ [0b000#3 ++ 0b00101#5] ++ List.replicate 7 0x00#8 ++
    [0xFF#8] ++ (answer 3 [0x00#8, 0x00#8]).bytes ++ (answer 0 [0x00#8]).bytes ++ List.replicate 7 0xFF#8 ++ [0xFE#8] ++
    block ++ [0x12#8, 0x34#8] ++ []

/-- A buffer whose first cell alone was written, overwritten by the host between the two operations. -/
def tripState : State :=
  { readyState [.request 3#2 3#32, .bufWrite 0#9 0x00#8, .request 2#2 3#32] (tripEnv (bufBytes [(0, 0x03#8)])) with
    buf := [(0, 0x03#8)] }

theorem witness_WriteThenReadGivesTheBlockBack :
    tripState.seq = .idle ∧ tripState.busy = false ∧ tripState.phase = .ready ∧
    tripState.cs.capacityClass = .known .high ∧
    tripState.hostQ =
      .request 3#2 3#32 ::
        ([((0#9 : BitVec 9), (0x00#8 : Byte))].map (fun w => HostMove.bufWrite w.1 w.2) ++ .request 2#2 3#32 :: []) ∧
    tripState.env =
      (answer 9999 [0x00#8]).bytes ++ List.replicate 515 0xFF#8 ++ [0b000#3 ++ 0b00101#5] ++ List.replicate 7 0x00#8 ++
        [0xFF#8] ++ (answer 3 [0x00#8, 0x00#8]).bytes ++ (answer 0 [0x00#8]).bytes ++ List.replicate 7 0xFF#8 ++
        [0xFE#8] ++ bufBytes tripState.buf ++ [0x12#8, 0x34#8] ++ [] ∧
    (answer 9999 [0x00#8]).Timely ∧ (answer 9999 [0x00#8]).response = [0x00#8] ∧
    (List.replicate 515 0xFF#8).length = 515 ∧ 0xFF#8 ≠ 0#8 ∧ 7 < tripState.params.busyBudget ∧
    (answer 3 [0x00#8, 0x00#8]).Timely ∧ (answer 3 [0x00#8, 0x00#8]).response = [0x00#8, 0x00#8] ∧
    (answer 0 [0x00#8]).Timely ∧ (answer 0 [0x00#8]).response = [0x00#8] ∧
    (∀ b ∈ List.replicate 7 0xFF#8, b ≠ 0xFE#8) ∧
    (List.replicate 7 0xFF#8).length < tripState.params.tokenBudget := by
  refine ⟨rfl, rfl, rfl, rfl, rfl, rfl, answer_timely (by decide) _, rfl, List.length_replicate, by decide, by decide,
    answer_timely (by decide) _, rfl, answer_timely (by decide) _, rfl, all_replicate (by decide), ?_⟩
  rw [List.length_replicate]
  decide

/-- Program P6: the bus yields 0xFF, 255 times a frame and 10000 polls. -/
def noCard : State :=
  { State.reset with
    hostQ := [.request 1#2 0#32]
    env := (List.replicate 255 (answer 10000 [])).flatMap Answer.bytes ++ [0x77#8] }

theorem witness_InitWithoutCardTimesOut :
    noCard.seq = .idle ∧ noCard.busy = false ∧ noCard.hostQ = .request 1#2 0#32 :: [] ∧
    noCard.env = (List.replicate 255 (answer 10000 [])).flatMap Answer.bytes ++ [0x77#8] ∧
    (List.replicate 255 (answer 10000 [])).length = 255 ∧
    (∀ a ∈ List.replicate 255 (answer 10000 []), a.dropped.length = 6 ∧ a.fillers.length = 10000 ∧
      (∀ b ∈ a.fillers, b.getLsbD 7 = true) ∧ a.response = []) := by
  refine ⟨rfl, rfl, rfl, rfl, List.length_replicate, ?_⟩
  intro a ha
  rw [List.eq_of_mem_replicate ha]
  exact ⟨List.length_replicate, List.length_replicate, all_replicate rfl, rfl⟩

/-- One idle answer of the loop of step 4: to command 55 and to command 41. -/
def idleLoop : Answer × Answer := (answer 1 [0x01#8], answer 2 [0x01#8])

/-- Program P1, with or without `OCR_CHECK`, with fillers and with ACMD41_BUDGET = 10 the greatest number of idle
answers to command 41 before the last. -/
def initState (ocrCheck : Bool) : State :=
  { State.reset with
    params := { sample with ocrCheck := ocrCheck }
    hostQ := [.request 1#2 0#32]
    env := (answer 9999 [0x01#8]).bytes ++ (answer 0 [0x01#8, 0x00#8, 0x00#8, 0x01#8, 0xAA#8]).bytes ++
      (if ocrCheck = true then (answer 1 [0x01#8, 0x00#8, 0x00#8, 0x80#8, 0x00#8]).bytes else []) ++
      (List.replicate 9 idleLoop).flatMap (fun l => l.1.bytes ++ l.2.bytes) ++ (answer 0 [0x01#8]).bytes ++
      (answer 1 [0x00#8]).bytes ++ (answer 2 [0x00#8, 0xC0#8, 0xFF#8, 0x80#8, 0x00#8]).bytes ++ [0x77#8] }

/-- With `OCR_CHECK`; in the OCR of step 3 bit 15 alone is set. -/
theorem witness_InitReadiesAHighCapacityCard :
    (initState true).seq = .idle ∧ (initState true).busy = false ∧
    (initState true).hostQ = .request 1#2 0#32 :: [] ∧
    (initState true).env =
      (answer 9999 [0x01#8]).bytes ++ (answer 0 [0x01#8, 0x00#8, 0x00#8, 0x01#8, 0xAA#8]).bytes ++
        (if (initState true).params.ocrCheck = true
          then (answer 1 [0x01#8, 0x00#8, 0x00#8, 0x80#8, 0x00#8]).bytes else []) ++
        (List.replicate 9 idleLoop).flatMap (fun l => l.1.bytes ++ l.2.bytes) ++ (answer 0 [0x01#8]).bytes ++
        (answer 1 [0x00#8]).bytes ++ (answer 2 [0x00#8, 0xC0#8, 0xFF#8, 0x80#8, 0x00#8]).bytes ++ [0x77#8] ∧
    (∀ n response, n < 10000 → (answer n response).Timely) ∧
    (∀ l ∈ List.replicate 9 idleLoop, l.1.Timely ∧ l.2.Timely ∧
      ∃ x y : Byte, l.1.response = [x] ∧ x.getLsbD 7 = false ∧
        l.2.response = [y] ∧ y.getLsbD 7 = false ∧ y.getLsbD 0 = true) ∧
    (List.replicate 9 idleLoop).length < (initState true).params.acmd41Budget ∧
    BitVec.getLsbD 0x01#8 7 = false ∧ BitVec.getLsbD 0x01#8 0 = true ∧ BitVec.getLsbD 0x01#8 2 = false ∧
    BitVec.extractLsb 3 0 0x01#8 = 0x1#4 ∧ ¬ (0x00#8 = 0x00#8 ∧ BitVec.getLsbD 0x80#8 7 = false) ∧
    BitVec.getLsbD 0x00#8 7 = false ∧ BitVec.getLsbD 0x00#8 0 = false ∧ BitVec.getLsbD 0x00#8 2 = false ∧
    BitVec.getLsbD 0xC0#8 6 = true := by
  refine ⟨rfl, rfl, rfl, rfl, fun _ r h => answer_timely h r, ?_, ?_, by decide, by decide, by decide, by decide,
    by decide, by decide, by decide, by decide, by decide⟩
  · intro l hl
    rw [List.eq_of_mem_replicate hl]
    exact ⟨answer_timely (by decide) _, answer_timely (by decide) _, 0x01#8, 0x01#8, rfl, by decide, rfl, by decide,
      by decide⟩
  · rw [List.length_replicate]
    show 9 < 10
    decide

/-- Without `OCR_CHECK` the first command 58 is not sent and the script has no answer to it; the answers are otherwise
those of the witness above. -/
theorem witness_InitReadiesAHighCapacityCard_unchecked :
    (initState false).seq = .idle ∧ (initState false).busy = false ∧
    (initState false).hostQ = .request 1#2 0#32 :: [] ∧
    (initState false).env =
      (answer 9999 [0x01#8]).bytes ++ (answer 0 [0x01#8, 0x00#8, 0x00#8, 0x01#8, 0xAA#8]).bytes ++
        (if (initState false).params.ocrCheck = true
          then (answer 1 [0x01#8, 0x00#8, 0x00#8, 0x80#8, 0x00#8]).bytes else []) ++
        (List.replicate 9 idleLoop).flatMap (fun l => l.1.bytes ++ l.2.bytes) ++ (answer 0 [0x01#8]).bytes ++
        (answer 1 [0x00#8]).bytes ++ (answer 2 [0x00#8, 0xC0#8, 0xFF#8, 0x80#8, 0x00#8]).bytes ++ [0x77#8] ∧
    (initState false).params.ocrCheck = false ∧ (initState false).params.acmd41Budget = 10 :=
  ⟨rfl, rfl, rfl, rfl, rfl, rfl⟩

end Sys2Proof.Tests
end

section
/-!
PROOFS. The command encoder (spec 40_command_encoder.md, R130 and R131): what each byte of a frame is, and that the
three fields stand in it unchanged.
-/

namespace Sys2Proof

section encodeFrame
variable (opcode : BitVec 6) (argument : Word32) (crc7 : BitVec 7)

@[simp] theorem encodeFrame_f0 : (encodeFrame opcode argument crc7).f0 = 0b01#2 ++ opcode := rfl

@[simp] theorem encodeFrame_f5 : (encodeFrame opcode argument crc7).f5 = crc7 ++ 0b1#1 := rfl

/-- Bytes 1 to 4 of a frame are the argument's bytes. -/
theorem encodeFrame_bytes :
    (encodeFrame opcode argument crc7).bytes = (0b01#2 ++ opcode) :: (bytes32 argument ++ [crc7 ++ 0b1#1]) := rfl

/-- R131: `opcode = f[0][5:0]`. -/
theorem encodeFrame_f0_low : (encodeFrame opcode argument crc7).f0.extractLsb 5 0 = opcode :=
  BitVec.extractLsb'_append_eq_right

/-- R131: `crc7 = f[5][7:1]`. -/
theorem encodeFrame_f5_high : (encodeFrame opcode argument crc7).f5.extractLsb 7 1 = crc7 :=
  BitVec.extractLsb'_append_eq_left

end encodeFrame

/-- The four bytes of a value, the most significant first, are the value: neighbouring slices join. -/
theorem word32_extract (w : Word32) :
    word32 (w.extractLsb' 24 8) (w.extractLsb' 16 8) (w.extractLsb' 8 8) (w.extractLsb' 0 8) = w := by
  unfold word32
  rw [BitVec.extractLsb'_append_extractLsb'_eq_extractLsb' (rfl : 24 = 16 + 8),
    BitVec.extractLsb'_append_extractLsb'_eq_extractLsb' (rfl : 16 = 8 + 8),
    BitVec.extractLsb'_append_extractLsb'_eq_extractLsb' (rfl : 8 = 0 + 8)]
  exact BitVec.extractLsb'_eq_self

/-- R131: `argument = f[1] ++ f[2] ++ f[3] ++ f[4]`. -/
theorem encodeFrame_argument (opcode : BitVec 6) (argument : Word32) (crc7 : BitVec 7) :
    word32 (encodeFrame opcode argument crc7).f1 (encodeFrame opcode argument crc7).f2
      (encodeFrame opcode argument crc7).f3 (encodeFrame opcode argument crc7).f4 = argument :=
  word32_extract argument

/-- A frame determines its three fields, because each is read back from it. -/
theorem encodeFrame_injective {o o' : BitVec 6} {a a' : Word32} {c c' : BitVec 7}
    (h : encodeFrame o a c = encodeFrame o' a' c') : o = o' ∧ a = a' ∧ c = c' := by
  refine ⟨?_, ?_, ?_⟩
  · rw [← encodeFrame_f0_low o a c, h, encodeFrame_f0_low]
  · rw [← encodeFrame_argument o a c, h, encodeFrame_argument]
  · rw [← encodeFrame_f5_high o a c, h, encodeFrame_f5_high]

/-- Joining two fields is shifting the first up by the width of the second and setting the second's bits below it. -/
theorem append_eq_shiftLeft_or {n m : Nat} (x : BitVec n) (y : BitVec m) :
    x ++ y = (x.zeroExtend (n + m) <<< m) ||| y.zeroExtend (n + m) := by
  rw [← BitVec.setWidth_append_eq_shiftLeft_setWidth_or, BitVec.setWidth_eq]

/-- Settles O2: each field is read back by its own lemma, injectivity follows from the three, and byte 5 holds no
other operand than `crc7`. -/
theorem frameFieldsReadBack : Obligations.FrameFieldsReadBack := by
  unfold Obligations.FrameFieldsReadBack
  refine ⟨fun o a c => ⟨?_, ?_, ?_⟩, fun _ _ _ _ _ _ h => encodeFrame_injective h, fun o o' a a' c => ?_⟩
  · exact (encodeFrame_f0_low o a c).symm
  · exact (encodeFrame_argument o a c).symm
  · exact (encodeFrame_f5_high o a c).symm
  · rw [encodeFrame_f5, encodeFrame_f5]

/-- Settles O1: the bytes are the fields' slices by definition, and the second form of bytes 0 and 5 is
`append_eq_shiftLeft_or`. -/
theorem encodeLaysOutTheFrame : Obligations.EncodeLaysOutTheFrame := by
  unfold Obligations.EncodeLaysOutTheFrame
  refine ⟨fun o a c => ⟨rfl, ?byte0, rfl, rfl, rfl, rfl, rfl, ?byte5⟩, ?opcode63, ?crcEnds, ?argumentOnes,
    ?sourceCmd0, ?sourceCmd8⟩
  case byte0 => exact append_eq_shiftLeft_or 0b01#2 o
  case byte5 => exact append_eq_shiftLeft_or c 0b1#1
  case opcode63 => intro a c; rw [encodeFrame_f0]; decide
  case crcEnds => intro o a; rw [encodeFrame_f5, encodeFrame_f5]; decide
  case argumentOnes =>
    intro o c
    rw [encodeFrame_bytes, List.drop_one, List.tail_cons, List.take_left' (bytes32_length _)]
    decide
  case sourceCmd0 => decide
  case sourceCmd8 => decide

end Sys2Proof
end

section
/-!
PROOFS. The response reader (spec 41_response_reader.md, R150 and R159): a run of bytes with bit 7 set at a point that
reads a response, first within the poll budget and then using it up.
-/

namespace Sys2Proof.Machine

/-! ### One byte with bit 7 set -/

section oneFiller
variable {s : State} {b : Byte} {rest : List Byte}

/-- At a response point a scripted byte with bit 7 set is run as a filler, whatever the shape asked for. -/
theorem step_of_filler (hr : s.seq.readerShape ≠ none) (henv : s.env = b :: rest) (hb : b.getLsbD 7 = true) :
    step s = exec (.filler (b.extractLsb' 0 7)) { s with env := rest } := by
  obtain ⟨sh, hsh⟩ := Option.ne_none_iff_exists'.mp hr
  have hd := draw_of_cons henv
  have hsel := selectResponse_filler sh (s := s) (by rw [hd]; exact hb)
  rw [← select_reader hsh, hd] at hsel
  exact step_of_instr hsel

/-- R150: below the budget the byte is counted and the reader stays where it is. -/
theorem step_filler_again (hr : s.seq.readerShape ≠ none) (henv : s.env = b :: rest) (hb : b.getLsbD 7 = true)
    (hp : s.pollCnt + 1 < Config.respBudget) :
    step s = .next { s with env := rest, trace := s.trace ++ receives [b], pollCnt := s.pollCnt + 1 } := by
  rw [step_of_filler hr henv hb, exec_filler_again { s with env := rest } _ hp, fillerByte_extract hb]
  rfl

/-- R150: the byte that uses up the budget is the reader's Timeout. -/
theorem step_filler_last (hr : s.seq.readerShape ≠ none) (henv : s.env = b :: rest) (hb : b.getLsbD 7 = true)
    (hp : s.pollCnt + 1 = Config.respBudget) :
    step s = .next (onTimeout { s with
      env := rest, trace := s.trace ++ receives [b], pollCnt := Config.respBudget, extValid := false }) := by
  rw [step_of_filler hr henv hb, exec_filler_last { s with env := rest } _ hp.not_lt,
    fillerByte_extract hb, ← hp]
  rfl

end oneFiller

/-! ### Many of them -/

@[simp] theorem receives_nil : receives [] = [] := rfl

theorem receives_append (as bs : List Byte) : receives (as ++ bs) = receives as ++ receives bs :=
  List.map_append

/-- Bytes with bit 7 set that leave the poll budget unused are skipped, one step and one exchange each. -/
theorem leads_fillers_skipped {s : State} {fillers rest : List Byte} (hr : s.seq.readerShape ≠ none)
    (henv : s.env = fillers ++ rest) (hb : ∀ b ∈ fillers, b.getLsbD 7 = true)
    (hp : s.pollCnt + fillers.length < Config.respBudget) :
    Leads fillers.length s { s with
      env := rest, trace := s.trace ++ receives fillers, pollCnt := s.pollCnt + fillers.length } := by
  induction fillers generalizing s with
  | nil =>
    rw [List.nil_append] at henv
    subst henv
    simpa using leads_zero s
  | cons b bs ih =>
    obtain ⟨hb, hbs⟩ := List.forall_mem_cons.mp hb
    rw [List.length_cons] at hp
    have first := step_filler_again hr henv hb (by omega)
    have others := ih (s := { s with
      env := bs ++ rest, trace := s.trace ++ receives [b], pollCnt := s.pollCnt + 1 }) hr rfl hbs
      (by show s.pollCnt + 1 + bs.length < _; omega)
    have run := leads_succ first others
    rwa [List.append_assoc, ← receives_append, List.singleton_append, Nat.add_assoc, Nat.add_comm 1] at run

/-- R159: bytes with bit 7 set that use up the poll budget end, with the last of them and not earlier, in the reader's
Timeout; the script behind them is not touched. -/
theorem leads_fillers_timeout {s : State} {fillers rest : List Byte} (hr : s.seq.readerShape ≠ none)
    (henv : s.env = fillers ++ rest) (hb : ∀ b ∈ fillers, b.getLsbD 7 = true) (hne : fillers ≠ [])
    (hp : s.pollCnt + fillers.length = Config.respBudget) :
    Leads fillers.length s (onTimeout { s with
      env := rest, trace := s.trace ++ receives fillers, pollCnt := Config.respBudget, extValid := false }) := by
  obtain ⟨front, last, rfl⟩ := (List.eq_nil_or_concat' fillers).resolve_left hne
  obtain ⟨hfront, hlast⟩ := List.forall_mem_append.mp hb
  rw [List.length_append, List.length_singleton] at hp ⊢
  rw [List.append_assoc, List.singleton_append] at henv
  have skipped := leads_fillers_skipped hr henv hfront (by omega)
  have timeout := step_filler_last (s := { s with
    env := last :: rest, trace := s.trace ++ receives front, pollCnt := s.pollCnt + front.length })
    hr rfl (hlast last (List.mem_singleton_self last)) ((Nat.add_assoc ..).trans hp)
  rw [receives_append, ← List.append_assoc]
  exact leads_trans skipped (leads_one timeout)

/-! ### The attempt of step 1 -/

theorem retryReset_retryCnt (s : State) : (retryReset s).retryCnt = s.retryCnt + 1 := by
  unfold retryReset
  split <;> rfl

theorem retryReset_seq (s : State) :
    (retryReset s).seq = if s.retryCnt + 1 < Config.resetRetries then .i1Send else .fail .timeout := by
  unfold retryReset
  split <;> rfl

/-- Settles O14: the state reached is that of `leads_fillers_timeout`, and the calling step's decision on it is
`onTimeout_reason` or, in step 1, `onTimeout_reset`. -/
theorem readerTimeoutIsExact : Obligations.ReaderTimeoutIsExact := by
  unfold Obligations.ReaderTimeoutIsExact
  intro s fillers rest hr hpoll henv hb hlen
  have hne : fillers ≠ [] := by
    rintro rfl
    cases hlen
  have hp : s.pollCnt + fillers.length = Config.respBudget := by
    rw [hpoll, hlen]
    rfl
  have run := leads_fillers_timeout hr henv hb hne hp
  rw [hlen] at run
  refine ⟨_, run, onTimeout_trace _, onTimeout_env _, onTimeout_extValid _, ?reason, ?attempt⟩
  case reason =>
    intro r hreason
    rw [onTimeout_reason _ (by exact hreason)]
    rfl
  case attempt =>
    intro hseq
    rw [onTimeout_reset _ (by exact hseq)]
    exact ⟨retryReset_retryCnt _, retryReset_seq _⟩

end Sys2Proof.Machine
end

section
/-!
PROOFS. The address translator (spec 42_address_translator.md, R170 and R172): its value for each class as a number, and
the bound below which the product loses no bit.
-/

namespace Sys2Proof.Machine

theorem translateIndex_standard (i : Word32) : translateIndex .standard i = i <<< 9 := rfl

theorem translateIndex_high (i : Word32) : translateIndex .high i = i := rfl

/-- R172: the register is 32 bits wide, so the product is kept modulo `2 ^ 32`. -/
theorem toNat_translateIndex_standard (i : Word32) :
    (translateIndex .standard i).toNat = i.toNat * 512 % 2 ^ 32 := by
  rw [translateIndex_standard, BitVec.toNat_shiftLeft, Nat.shiftLeft_eq]

/-- No bit passes bit 31 when the index is below `2 ^ 23`. -/
theorem toNat_translateIndex_standard_of_lt {i : Word32} (h : i.toNat < 2 ^ 23) :
    (translateIndex .standard i).toNat = i.toNat * 512 := by
  have fits : i.toNat * 512 < 2 ^ 32 := by omega
  rw [toNat_translateIndex_standard, Nat.mod_eq_of_lt fits]

theorem translateIndex_standard_eq_ofNat (i : Word32) :
    translateIndex .standard i = BitVec.ofNat 32 (i.toNat * 512) :=
  BitVec.eq_of_toNat_eq ((toNat_translateIndex_standard i).trans (BitVec.toNat_ofNat ..).symm)

/-- Settles O36: the product modulo `2 ^ 32`, the bound below which nothing is lost, and R170's five examples, which
are closed terms. -/
theorem translateLaw : Obligations.TranslateLaw := by
  unfold Obligations.TranslateLaw
  refine ⟨translateIndex_standard_eq_ofNat, translateIndex_high,
    fun _ => toNat_translateIndex_standard_of_lt, ?examples⟩
  case examples => decide

end Sys2Proof.Machine
end

section
/-!
PROOFS. The initialization (spec 43_initialization.md, R189): its failure exit, and why the capacity class is still
Unknown there.
-/

namespace Sys2Proof.Machine

/-! ### The failure point -/

section failurePoint
variable {s : State} {r : Reason}

/-- At the failure point the sequencer takes the exit and nothing else: no byte is drawn, no host move heard. -/
theorem select_of_fail (hseq : s.seq = .fail r) : select s = .control (.failed r) s := by
  rw [select, hseq]

theorem step_of_fail (hseq : s.seq = .fail r) : step s = .next (failExit r s) :=
  step_of_control (select_of_fail hseq)

/-- R189: the exit taken while INIT runs. -/
theorem failExit_of_init (hop : s.op = 1#2) :
    failExit r s = deliver r.code (busDeselect (failSession r s)) := by
  rw [failExit, if_pos hop]

end failurePoint

/-! ### The capacity class while a session is not Ready -/

/-- R40 (a): outside Ready the capacity class is Unknown. -/
theorem State.Inv.capacityClass_unknown {s : State} (hinv : s.Inv) (hphase : s.phase ≠ .ready) :
    s.cs.capacityClass = .unknown :=
  Decidable.not_not.mp (mt hinv.capacity.mp hphase)

/-- At the failure point of INIT the phase is still the one INIT's entry wrote, because the other operations have
another code in `op`. -/
theorem State.Inv.phase_uninit_of_fail {s : State} {r : Reason} (hinv : s.Inv) (hseq : s.seq = .fail r)
    (hop : s.op = 1#2) : s.phase = .uninit := by
  have hpoint := hinv.point
  rw [pointOk, hseq] at hpoint
  obtain ⟨-, huninit⟩ | ⟨hblock, -⟩ := hpoint
  · exact huninit
  · rw [hop] at hblock
    exact absurd hblock (by decide)

/-- Settles O38: the exit is R189's lines in order, and the phase before it is Uninit, where the invariant has the
capacity class Unknown. -/
theorem initFails : Obligations.InitFails := by
  unfold Obligations.InitFails
  intro s r hseq hop
  refine ⟨?exit, fun hinv => hinv.capacityClass_unknown ?notReady⟩
  case exit =>
    rw [step_of_fail hseq, failExit_of_init hop]
    rfl
  case notReady =>
    rw [hinv.phase_uninit_of_fail hseq hop]
    decide

end Sys2Proof.Machine
end

section
/-!
PROOFS. The block operations (spec 44_block_transfer.md, R220 and R221): the two ways they end.
-/

namespace Sys2Proof.Machine

/-! ### The failure exit -/

section failureExit
variable {s : State} {r : Reason}

@[simp] theorem recordInfo_writeRejected (code : BitVec 5) (s : State) :
    recordInfo (.writeRejected code) s = { s with resInfo := code } := rfl

/-- A reason other than WriteRejected carries no code, and `res_info` stays as it is. -/
theorem recordInfo_of_ne_writeRejected (hr : ∀ code, r ≠ .writeRejected code) : recordInfo r s = s := by
  cases r
  case writeRejected code => exact absurd rfl (hr code)
  all_goals rfl

/-- R220: the exit taken while an operation other than INIT runs. -/
theorem failExit_of_not_init (hop : s.op ≠ 1#2) :
    failExit r s = deliver r.code (busDeselect (recordInfo r s)) := by
  rw [failExit, if_neg hop]

end failureExit

/-- Settles O39: the exit is R220's lines in order, and only WriteRejected has a code to record. -/
theorem blockOperationFails : Obligations.BlockOperationFails := by
  unfold Obligations.BlockOperationFails
  intro s r hseq hop
  rw [step_of_fail hseq, failExit_of_not_init hop]
  cases r
  case writeRejected code =>
    rw [recordInfo_writeRejected]
    rfl
  all_goals
    rw [recordInfo_of_ne_writeRejected (by simp)]
    rfl

/-! ### The success exit -/

/-- R_DESEL and W_DESEL select the same control action. -/
theorem select_of_desel {s : State} (hseq : s.seq = .rDesel ∨ s.seq = .wDesel) : select s = .control .close s := by
  obtain hread | hwrite := hseq
  · rw [select, hread]
  · rw [select, hwrite]

/-- R221, as the last lines of R211 and R215: `Deselect()`, then the result OK. -/
theorem step_of_desel {s : State} (hseq : s.seq = .rDesel ∨ s.seq = .wDesel) :
    step s = .next (deliver .ok (busDeselect s)) :=
  step_of_control (select_of_desel hseq)

/-- Settles O40: both points take the one exit `step_of_desel` states, whose writes are those of `busDeselect` and
`deliver`. -/
theorem blockOperationSucceeds : Obligations.BlockOperationSucceeds := by
  unfold Obligations.BlockOperationSucceeds
  intro s hseq
  rw [step_of_desel hseq]
  rfl

end Sys2Proof.Machine
end

section
/-!
PROOFS. The encodings (spec 30_encoding.md, R90 to R104): decoding and encoding are inverse to each other on every
channel, one lemma per format and direction.
-/

namespace Sys2Proof

/-! ### Command frames -/

/-- The frame of a command's fields is read as those fields. -/
theorem decodeFrame_encodeFrame (f : CommandFields) :
    decodeFrame (encodeFrame f.opcode f.argument f.crc7) = recogniseCommand f := by
  have start : (0b01#2 ++ f.opcode).extractLsb' 6 2 = 0b01#2 := BitVec.extractLsb'_append_eq_left
  have low : (0b01#2 ++ f.opcode).extractLsb' 0 6 = f.opcode := BitVec.extractLsb'_append_eq_right
  have crc : (f.crc7 ++ 0b1#1).extractLsb' 1 7 = f.crc7 := BitVec.extractLsb'_append_eq_left
  have stop : ∀ c : BitVec 7, (c ++ 0b1#1).getLsbD 0 = true := by decide
  simp only [decodeFrame, encodeFrame_argument, encodeFrame_f0, encodeFrame_f5, start, low, crc, stop]
  rfl

/-- The four bytes of a value made of four bytes are those bytes. -/
theorem bytes32_word32 (a b c d : Byte) : bytes32 (word32 a b c d) = [a, b, c, d] := by
  have above (n : Nat) (h : 8 ≤ n) {k : Nat} (x : BitVec k) (y : Byte) :
      (x ++ y).extractLsb' n 8 = x.extractLsb' (n - 8) 8 := BitVec.extractLsb'_append_eq_of_le h
  have last {k : Nat} (x : BitVec k) (y : Byte) : (x ++ y).extractLsb' 0 8 = y := BitVec.extractLsb'_append_eq_right
  have h2 : (word32 a b c d).extractLsb' 8 8 = c := (above 8 (by decide) (a ++ b ++ c) d).trans (last _ c)
  have h1 : (word32 a b c d).extractLsb' 16 8 = b :=
    ((above 16 (by decide) (a ++ b ++ c) d).trans (above 8 (by decide) (a ++ b) c)).trans (last _ b)
  have h0 : (word32 a b c d).extractLsb' 24 8 = a :=
    ((above 24 (by decide) (a ++ b ++ c) d).trans (above 16 (by decide) (a ++ b) c)).trans
      ((above 8 (by decide) a b).trans BitVec.extractLsb'_eq_self)
  rw [bytes32, h0, h1, h2, word32, last]

theorem frameStart_append {b : Byte} (h : b.extractLsb' 6 2 = 0b01#2) : 0b01#2 ++ b.extractLsb' 0 6 = b := by
  revert b; decide

theorem append_endBit {b : Byte} (h : b.getLsbD 0 = true) : b.extractLsb' 1 7 ++ 0b1#1 = b := by
  revert b; decide

/-- A frame with R90's start and end bits is the frame of the fields read from it. -/
theorem encodeFrame_fields {f : Frame} (start : f.f0.extractLsb' 6 2 = 0b01#2) (stop : f.f5.getLsbD 0 = true) :
    (encodeFrame (f.f0.extractLsb' 0 6) (word32 f.f1 f.f2 f.f3 f.f4) (f.f5.extractLsb' 1 7)).bytes = f.bytes := by
  rw [encodeFrame_bytes, bytes32_word32, frameStart_append start, append_endBit stop]
  rfl

/-- The opcode and the argument of a command name it. -/
theorem commandOfOpcode_of_fields {i : Instr} {f : CommandFields} (h : commandFields i = some f) :
    commandOfOpcode f.opcode f.argument = some i := by
  cases i
  case acmd41 hcs => cases h; cases hcs <;> rfl
  all_goals cases h <;> rfl

/-- What an opcode names has that opcode. -/
theorem opcode_of_commandOfOpcode {o : BitVec 6} {a : Word32} {i : Instr} (h : commandOfOpcode o a = some i) :
    ∃ f, commandFields i = some f ∧ f.opcode = o := by
  unfold commandOfOpcode at h
  split_ifs at h with h0 h8 h13 h16 h17 h24 h55 h41 h58 <;> cases h <;> exact ⟨_, rfl, Eq.symm ‹_›⟩

/-- A command's fields are recognised as that command. -/
theorem recogniseCommand_of_fields {i : Instr} {f : CommandFields} (h : commandFields i = some f) :
    recogniseCommand f = .ok i := by
  simp [recogniseCommand, commandOfOpcode_of_fields h, h]

/-- What is recognised is a command with exactly the fields read. -/
theorem fields_of_recogniseCommand {i : Instr} {f : CommandFields} (h : recogniseCommand f = .ok i) :
    commandFields i = some f := by
  unfold recogniseCommand at h
  cases hi : commandOfOpcode f.opcode f.argument with
  | none => simp [hi] at h
  | some j =>
    obtain ⟨g, hg, hop⟩ := opcode_of_commandOfOpcode hi
    simp only [hi, hg] at h
    split_ifs at h with harg hcrc
    cases h
    rw [hg, Option.some_inj]
    cases g
    cases f
    simp_all

theorem decodeCommand_of_frame {f : Frame} {i : Instr} (h : decodeFrame f = .ok i) (rest : List Byte) :
    decodeCommand (f.bytes ++ rest) = .ok (i, rest) := by
  simp [Frame.bytes, decodeCommand, h]

theorem encodeCommand_of_fields {i : Instr} {f : CommandFields} (h : commandFields i = some f) :
    encodeCommand i = (encodeFrame f.opcode f.argument f.crc7).bytes := by
  rw [encodeCommand, h]

/-- Of a command, decoding undoes encoding. -/
theorem decode_encodeCommand {i : Instr} {f : CommandFields} (h : commandFields i = some f) (rest : List Byte) :
    decode .command (encodeCommand i ++ rest) = .ok (i, rest) := by
  rw [encodeCommand_of_fields h]
  exact decodeCommand_of_frame ((decodeFrame_encodeFrame f).trans (recogniseCommand_of_fields h)) rest

/-- The words of a command are its frame. -/
theorem encode_of_fields {i : Instr} {f : CommandFields} (h : commandFields i = some f) :
    i.wellFormed = true ∧ encode i = (encodeFrame f.opcode f.argument f.crc7).bytes := by
  rw [← encodeCommand_of_fields h]
  cases i <;> cases h <;> exact ⟨rfl, rfl⟩

/-- A frame that is accepted is the words of the command read. -/
theorem encode_of_decodeFrame {f : Frame} {i : Instr} (h : decodeFrame f = .ok i) :
    i.wellFormed = true ∧ encode i = f.bytes := by
  unfold decodeFrame at h
  split_ifs at h with start stop
  rw [← encodeFrame_fields (Decidable.not_not.mp start) (Bool.eq_true_of_not_eq_false stop)]
  exact encode_of_fields (fields_of_recogniseCommand h)

theorem encode_of_decodeCommand {bytes rest : List Byte} {i : Instr} (h : decodeCommand bytes = .ok (i, rest)) :
    i.wellFormed = true ∧ encode i ++ rest = bytes := by
  unfold decodeCommand at h
  split at h
  · split at h <;> cases h
    rename_i f0 f1 f2 f3 f4 f5 _ hf
    obtain ⟨wf, words⟩ := encode_of_decodeFrame hf
    exact ⟨wf, by rw [words]; rfl⟩
  · cases h

/-! ### Responses -/

/-- The busy bytes of R1b are counted up to the first that is not zero. -/
theorem takeBusy_replicate (n : Nat) {last : Byte} (h : last ≠ 0#8) (rest : List Byte) :
    takeBusy (List.replicate n 0#8 ++ last :: rest) = .ok (n, last, rest) := by
  induction n with
  | zero => simp [takeBusy, h]
  | succ n ih => simp [List.replicate_succ, takeBusy, ih]

theorem replicate_of_takeBusy {bytes rest : List Byte} {n : Nat} {last : Byte}
    (h : takeBusy bytes = .ok (n, last, rest)) : last ≠ 0#8 ∧ bytes = List.replicate n 0#8 ++ last :: rest := by
  induction bytes generalizing n with
  | nil => cases h
  | cons b bs ih =>
    simp only [takeBusy] at h
    split_ifs at h with hb
    · split at h <;> cases h
      rename_i m hm
      obtain ⟨hlast, hbs⟩ := ih hm
      exact ⟨hlast, by rw [hb, hbs]; rfl⟩
    · cases h
      exact ⟨hb, rfl⟩

theorem decode_r1b {b : Byte} (h : b.getLsbD 7 = false) (n : Nat) {last : Byte} (hl : last ≠ 0#8) (rest : List Byte) :
    decode (.response .r1b) (b :: (List.replicate n 0#8 ++ last :: rest)) =
      .ok (.r1b (b.extractLsb' 0 7) n last, rest) := by
  simp only [decode, decodeResponse, decodeStatus, h, takeBusy_replicate n hl]
  rfl

theorem bytes_of_takePayload {bytes rest : List Byte} {p : Payload} (h : takePayload bytes = .ok (p, rest)) :
    p.bytes ++ rest = bytes := by
  unfold takePayload at h
  split at h <;> cases h
  rfl

/-- What R157 asks of a response without its extension: the extension is written as zeros. -/
theorem eq_of_illegal {α : Type} [BEq α] [LawfulBEq α] {st : BitVec 7} {x y : α} (h : st.getLsbD 2 = true)
    (wf : (!illegalOf st || x == y) = true) : x = y := by
  rw [illegalOf, h] at wf
  exact beq_iff_eq.mp wf

theorem wellFormed_of_legal {st : BitVec 7} (h : ¬ st.getLsbD 2 = true) (e : Bool) : (!illegalOf st || e) = true := by
  rw [illegalOf, Bool.eq_false_of_not_eq_true h]
  rfl

theorem wellFormed_of_zeros {st : BitVec 7} {α : Type} [BEq α] [LawfulBEq α] (x : α) :
    (!illegalOf st || x == x) = true := by
  rw [BEq.rfl, Bool.or_true]

/-- What is read behind a status byte is the rest of the response's words. -/
theorem encode_of_decodeStatus {sh : Shape} {st : BitVec 7} {bytes rest : List Byte} {i : Instr}
    (h : decodeStatus sh st bytes = .ok (i, rest)) :
    i.wellFormed = true ∧ encode i ++ rest = statusByte st :: bytes := by
  cases sh <;> simp only [decodeStatus] at h
  case r1 => cases h; exact ⟨rfl, rfl⟩
  case r1b =>
    split at h <;> cases h
    rename_i hb
    obtain ⟨hlast, rfl⟩ := replicate_of_takeBusy hb
    simp [Instr.wellFormed, encode, hlast]
  case r2 =>
    split_ifs at h with hi
    · cases h
      exact ⟨wellFormed_of_zeros _, by rw [encode, if_pos hi]; rfl⟩
    · split at h <;> cases h
      exact ⟨wellFormed_of_legal hi _, by rw [encode, if_neg hi]; rfl⟩
  all_goals
    split_ifs at h with hi
    · cases h
      exact ⟨wellFormed_of_zeros _, by rw [encode, if_pos hi]; rfl⟩
    · split at h <;> cases h
      rename_i hp
      exact ⟨wellFormed_of_legal hi _, by rw [encode, if_neg hi, ← bytes_of_takePayload hp]; rfl⟩

theorem encode_of_decodeResponse {sh : Shape} {bytes rest : List Byte} {i : Instr}
    (h : decodeResponse sh bytes = .ok (i, rest)) : i.wellFormed = true ∧ encode i ++ rest = bytes := by
  cases bytes with
  | nil => cases h
  | cons b bs =>
    simp only [decodeResponse] at h
    split_ifs at h with hb
    · cases h
      exact ⟨rfl, by rw [encode, fillerByte_extract hb]; rfl⟩
    · rw [← statusByte_extract (Bool.eq_false_of_not_eq_true hb)]
      exact encode_of_decodeStatus h

section
variable {st : BitVec 7}

theorem decode_encode_r2 {t : Byte} (wf : (Instr.r2 st t).wellFormed = true) (rest : List Byte) :
    decode (.response .r2) (encode (.r2 st t) ++ rest) = .ok (.r2 st t, rest) := by
  rw [encode]
  split_ifs with hi <;> rw [← statusByte_getLsbD_two] at hi
  · obtain rfl := eq_of_illegal (statusByte_getLsbD_two st ▸ hi) wf
    exact (decode_r2_short (statusByte_bit7 st) hi rest).trans (by rw [statusByte_low])
  · exact (decode_r2_full (statusByte_bit7 st) (Bool.eq_false_of_not_eq_true hi) t rest).trans (by rw [statusByte_low])

theorem decode_encode_r3 {p : Payload} (wf : (Instr.r3 st p).wellFormed = true) (rest : List Byte) :
    decode (.response .r3) (encode (.r3 st p) ++ rest) = .ok (.r3 st p, rest) := by
  rw [encode]
  split_ifs with hi <;> rw [← statusByte_getLsbD_two] at hi
  · obtain rfl := eq_of_illegal (statusByte_getLsbD_two st ▸ hi) wf
    exact (decode_r3_short (statusByte_bit7 st) hi rest).trans (by rw [statusByte_low])
  · exact (decode_r3_full (statusByte_bit7 st) (Bool.eq_false_of_not_eq_true hi) p rest).trans (by rw [statusByte_low])

theorem decode_encode_r7 {p : Payload} (wf : (Instr.r7 st p).wellFormed = true) (rest : List Byte) :
    decode (.response .r7) (encode (.r7 st p) ++ rest) = .ok (.r7 st p, rest) := by
  rw [encode]
  split_ifs with hi <;> rw [← statusByte_getLsbD_two] at hi
  · obtain rfl := eq_of_illegal (statusByte_getLsbD_two st ▸ hi) wf
    exact (decode_r7_short (statusByte_bit7 st) hi rest).trans (by rw [statusByte_low])
  · exact (decode_r7_full (statusByte_bit7 st) (Bool.eq_false_of_not_eq_true hi) p rest).trans (by rw [statusByte_low])

end

/-! ### Data blocks -/

/-- The written block of R100: the payload and the dummy CRC after the token. -/
theorem decode_dataOut {payload : List Byte} (h : payload.length = Config.blockSize) (rest : List Byte) :
    decode .dataOut (Config.startToken :: (payload ++ [Config.dummyCrc0, Config.dummyCrc1] ++ rest)) =
      .ok (.writeData payload, rest) := by
  simp [decode, decodeDataOut, ← h]

/-- Where two bytes stand behind the first 512, those are a payload and the two its CRC. -/
theorem payload_of_drop {bs rest : List Byte} {c0 c1 : Byte} (h : bs.drop Config.blockSize = c0 :: c1 :: rest) :
    (bs.take Config.blockSize).length = Config.blockSize ∧ bs = bs.take Config.blockSize ++ c0 :: c1 :: rest := by
  refine ⟨?_, by rw [← h, List.take_append_drop]⟩
  have hl := congrArg List.length h
  simp only [List.length_drop, List.length_cons] at hl
  rw [List.length_take]
  omega

theorem encode_of_decodeDataIn {bytes rest : List Byte} {i : Instr} (h : decodeDataIn bytes = .ok (i, rest)) :
    i.wellFormed = true ∧ encode i ++ rest = bytes := by
  cases bytes with
  | nil => cases h
  | cons b bs =>
    simp only [decodeDataIn] at h
    split_ifs at h with hb
    split at h <;> cases h
    rename_i hd
    obtain ⟨hlen, hbs⟩ := payload_of_drop hd
    exact ⟨beq_iff_eq.mpr hlen, by rw [Decidable.not_not.mp hb]; simpa [encode] using hbs.symm⟩

theorem encode_of_decodeDataOut {bytes rest : List Byte} {i : Instr} (h : decodeDataOut bytes = .ok (i, rest)) :
    i.wellFormed = true ∧ encode i ++ rest = bytes := by
  cases bytes with
  | nil => cases h
  | cons b bs =>
    simp only [decodeDataOut] at h
    split_ifs at h with hb
    split at h
    · split_ifs at h with hc
      cases h
      rename_i hd
      obtain ⟨hlen, hbs⟩ := payload_of_drop hd
      obtain ⟨rfl, rfl⟩ := hc
      exact ⟨beq_iff_eq.mpr hlen, by rw [Decidable.not_not.mp hb]; simpa [encode] using hbs.symm⟩
    · cases h

/-! ### One byte, and host requests -/

theorem encode_of_decodeToken {bytes rest : List Byte} {i : Instr} (h : decodeToken bytes = .ok (i, rest)) :
    i.wellFormed = true ∧ encode i ++ rest = bytes := by
  cases bytes with
  | nil => cases h
  | cons b bs =>
    simp only [decodeToken] at h
    split_ifs at h with hb
    cases h
    exact ⟨rfl, by rw [hb]; rfl⟩

theorem encode_of_decodeDataResp {bytes rest : List Byte} {i : Instr} (h : decodeDataResp bytes = .ok (i, rest)) :
    i.wellFormed = true ∧ encode i ++ rest = bytes := by
  cases bytes with
  | nil => cases h
  | cons b bs =>
    cases h
    exact ⟨rfl, by rw [encode, dataRespByte_extract]; rfl⟩

/-- A byte whose bits 7:2 are zero is one of the four operation codes. -/
theorem operationCode_cases {b : Byte} (h : b.extractLsb' 2 6 = 0#6) : b = 0#8 ∨ b = 1#8 ∨ b = 2#8 ∨ b = 3#8 := by
  revert b; decide

theorem encode_of_decodeHost {bytes rest : List Byte} {i : Instr} (h : decodeHost bytes = .ok (i, rest)) :
    i.wellFormed = true ∧ encode i ++ rest = bytes := by
  cases bytes with
  | nil => cases h
  | cons b bs =>
    simp only [decodeHost] at h
    split_ifs at h with hcode hindex
    · split at h <;> cases h
      rename_i i0 i1 i2 i3
      obtain rfl | rfl | rfl | rfl := operationCode_cases (Decidable.not_not.mp hcode)
      · cases hindex
      · cases hindex
      · exact ⟨rfl, congrArg (fun w => 2#8 :: (w ++ rest)) (bytes32_word32 i0 i1 i2 i3)⟩
      · exact ⟨rfl, congrArg (fun w => 3#8 :: (w ++ rest)) (bytes32_word32 i0 i1 i2 i3)⟩
    · cases h
      obtain rfl | rfl | rfl | rfl := operationCode_cases (Decidable.not_not.mp hcode)
      · exact ⟨rfl, rfl⟩
      · exact ⟨rfl, rfl⟩
      · exact absurd rfl hindex
      · exact absurd rfl hindex

theorem decode_host_readBlock (index : Word32) (rest : List Byte) :
    decode .host (0x02#8 :: (bytes32 index ++ rest)) = .ok (.readBlock index, rest) := by
  refine Eq.trans (b := .ok (.readBlock _, rest)) rfl ?_
  rw [word32_extract]

theorem decode_host_writeBlock (index : Word32) (rest : List Byte) :
    decode .host (0x03#8 :: (bytes32 index ++ rest)) = .ok (.writeBlock index, rest) := by
  refine Eq.trans (b := .ok (.writeBlock _, rest)) rfl ?_
  rw [word32_extract]

/-! ### Both directions, for every instruction and every channel -/

/-- Settles O3, by the constructors: each format's own lemma reads its words back. -/
theorem decodeOfEncodeIsTheInstruction : Obligations.DecodeOfEncodeIsTheInstruction := by
  unfold Obligations.DecodeOfEncodeIsTheInstruction
  intro i rest wf
  cases i
  case filler x =>
    exact (decode_filler .r1 (fillerByte_bit7 x) rest).trans (by rw [fillerByte_low])
  case r1 st => exact (decode_r1 (statusByte_bit7 st) rest).trans (by rw [statusByte_low])
  case r1b st zeros last =>
    have hlast : last ≠ 0#8 := bne_iff_ne.mp wf
    have := decode_r1b (statusByte_bit7 st) zeros hlast rest
    rw [statusByte_low] at this
    simpa [encode, channelOf] using this
  case r2 st t => exact decode_encode_r2 wf rest
  case r3 st p => exact decode_encode_r3 wf rest
  case r7 st p => exact decode_encode_r7 wf rest
  case readData payload c0 c1 =>
    have := decode_dataIn payload c0 c1 (beq_iff_eq.mp wf) rest
    simpa [encode, channelOf] using this
  case writeData payload => exact decode_dataOut (beq_iff_eq.mp wf) rest
  case dataResp ignored code =>
    simp [channelOf, decode, encode, decodeDataResp]
  case readBlock index => exact decode_host_readBlock index rest
  case writeBlock index => exact decode_host_writeBlock index rest
  case startToken => rfl
  case nop => rfl
  case init => rfl
  case cmd0 => exact decode_encodeCommand (i := .cmd0) rfl rest
  case cmd8 => exact decode_encodeCommand (i := .cmd8) rfl rest
  case cmd13 => exact decode_encodeCommand (i := .cmd13) rfl rest
  case cmd16 => exact decode_encodeCommand (i := .cmd16) rfl rest
  case cmd17 addr => exact decode_encodeCommand (i := .cmd17 addr) rfl rest
  case cmd24 addr => exact decode_encodeCommand (i := .cmd24 addr) rfl rest
  case cmd55 => exact decode_encodeCommand (i := .cmd55) rfl rest
  case acmd41 hcs => exact decode_encodeCommand (i := .acmd41 hcs) rfl rest
  case cmd58 => exact decode_encodeCommand (i := .cmd58) rfl rest

/-- Settles O4, by the channels: what each format's decoder accepts is the words it took. -/
theorem encodeOfDecodeIsTheWord : Obligations.EncodeOfDecodeIsTheWord := by
  unfold Obligations.EncodeOfDecodeIsTheWord
  intro c bytes rest i h
  cases c
  case host => exact encode_of_decodeHost h
  case command => exact encode_of_decodeCommand h
  case response sh => exact encode_of_decodeResponse h
  case token => exact encode_of_decodeToken h
  case dataIn => exact encode_of_decodeDataIn h
  case dataOut => exact encode_of_decodeDataOut h
  case dataResp => exact encode_of_decodeDataResp h

/-- Settles O5: the blocks by their formats' lemmas for every payload, and the other words, which are closed, by
evaluation. -/
theorem specWordsDecode : Obligations.SpecWordsDecode := by
  unfold Obligations.SpecWordsDecode
  refine ⟨by decide, by decide, by decide, by decide, by decide, by decide, by decide, by decide, by decide, by decide,
    by decide, by decide, by decide, by decide, ?readBlock, ?writtenBlock, by decide, by decide⟩
  case readBlock => exact fun payload c0 c1 h => decode_dataIn payload c0 c1 h []
  case writtenBlock =>
    intro payload h
    have := decode_dataOut h []
    rwa [List.append_nil] at this

end Sys2Proof
end

section
/-!
PROOFS. The commands (spec 40_command_encoder.md, R132 to R142): each sends the frame of its fields, and which command
a program point sends.
-/

namespace Sys2Proof.Machine

/-- `Send` in the terms of Safety.lean (spec R132). -/
theorem send_eq_withFrame (opcode : BitVec 6) (argument : Word32) (crc7 : BitVec 7) (s : State) :
    send opcode argument crc7 s = withFrame (encodeFrame opcode argument crc7) s := send_eq opcode argument crc7 s

/-- Every command sends the frame of its fields. -/
theorem exec_command {i : Instr} {g : CommandFields} (h : commandFields i = some g) (s : State) :
    exec i s = .next (withFrame (encodeFrame g.opcode g.argument g.crc7) s) := by
  cases i <;> cases h <;> exact congrArg _ (send_eq_withFrame ..)

/-- The same with the frame's bytes written out. -/
theorem exec_command_of_frame {i : Instr} {g : CommandFields} {f : Frame} (h : commandFields i = some g)
    (hf : encodeFrame g.opcode g.argument g.crc7 = f) (s : State) : exec i s = .next (withFrame f s) :=
  hf ▸ exec_command h s

/-! ### Which command a program point sends -/

/-- The command the sequencer sends at a program point, its operand taken from the registers (spec R39). -/
def commandAt (s : State) : Option Instr :=
  match s.seq with
  | .i1Send => some .cmd0
  | .i2Send => some .cmd8
  | .i3Send => some .cmd58
  | .i4aSend => some .cmd55
  | .i4bSend => some (.acmd41 (wantsHcs s.cs.versionClass))
  | .i5Send => some .cmd58
  | .i6Send => some .cmd16
  | .rSend => some (.cmd17 s.addr)
  | .wSend => some (.cmd24 s.addr)
  | .wStSend => some .cmd13
  | _ => none

theorem select_of_commandAt {s : State} {i : Instr} (h : commandAt s = some i) : select s = .instr i s := by
  unfold commandAt at h
  unfold select
  split at h <;> cases h <;> simp only [*]

theorem step_of_commandAt {s : State} {i : Instr} (h : commandAt s = some i) : step s = exec i s :=
  step_of_instr (select_of_commandAt h)

/-- What a program point sends is a command. -/
theorem fields_of_commandAt {s : State} {i : Instr} (h : commandAt s = some i) : ∃ g, commandFields i = some g := by
  unfold commandAt at h
  split at h <;> cases h <;> exact ⟨_, rfl⟩

/-- At a point that sends a command a step sends that command's words (spec R39, R132). -/
theorem step_command {s : State} {i : Instr} (h : commandAt s = some i) :
    ∃ f : Frame, f.bytes = encode i ∧ step s = .next (withFrame f s) := by
  obtain ⟨g, hg⟩ := fields_of_commandAt h
  exact ⟨_, (encode_of_fields hg).2.symm, (step_of_commandAt h).trans (exec_command hg s)⟩

/-- Settles O6: each command's frame is that of its fields, and the six frames are closed terms. -/
theorem fixedCommandsSendTheirFrames : Obligations.FixedCommandsSendTheirFrames := by
  unfold Obligations.FixedCommandsSendTheirFrames
  intro s
  refine ⟨?_, ?_, ?_, ?_, ?_, ?_⟩ <;> exact exec_command_of_frame rfl (by decide) s

/-- The frame of a command that carries its operand as its argument (spec R137, R138). -/
theorem operandFrame {opcode : BitVec 6} {b : Byte} (h : 0b01#2 ++ opcode = b) (argument : Word32) :
    encodeFrame opcode argument Config.crc7Fill =
      ⟨b, argument.extractLsb 31 24, argument.extractLsb 23 16, argument.extractLsb 15 8, argument.extractLsb 7 0,
        0xFF#8⟩ := by
  have fill : Config.crc7Fill ++ 0b1#1 = 0xFF#8 := by decide
  rw [encodeFrame, h, fill]
  rfl

/-- Settles O7: the frame of the fields again; the address bytes stand in it by definition. -/
theorem operandCommandsSendTheirFrames : Obligations.OperandCommandsSendTheirFrames := by
  unfold Obligations.OperandCommandsSendTheirFrames
  intro s addr
  have h17 : 0b01#2 ++ Config.opReadSingle = 0x51#8 := by decide
  have h24 : 0b01#2 ++ Config.opWriteSingle = 0x58#8 := by decide
  refine ⟨?_, ?_, ?_, ?_⟩
  · rw [exec_command (i := .cmd17 addr) rfl, operandFrame h17]
  · rw [exec_command (i := .cmd24 addr) rfl, operandFrame h24]
  · exact exec_command_of_frame rfl (by decide) s
  · exact exec_command_of_frame rfl (by decide) s

/-- Settles O8: at I4B_SEND the operand of command 41 is whether the class is V2. -/
theorem acmd41FollowsTheVersionClass : Obligations.Acmd41FollowsTheVersionClass := by
  unfold Obligations.Acmd41FollowsTheVersionClass
  intro s hseq
  have hstep : step s = exec (.acmd41 (wantsHcs s.cs.versionClass)) s := step_of_commandAt (by rw [commandAt, hseq])
  refine ⟨fun hv => ?_, fun hv => ?_⟩ <;> rw [hstep, hv] <;> exact exec_command_of_frame rfl (by decide) s

end Sys2Proof.Machine
end

section
/-!
PROOFS. The transitions (spec R39, R104, R191, R241): what the calling step can make of a token or a Timeout, and what a
step can do, each said once as an inductive relation. The invariants and the frame statements are read off these.
-/

namespace Sys2Proof.Machine

/-! ### Decisions -/

/-- What the step that asked for a response can do next (spec R182 to R187, R211, R215, R219, R241): `v` is the state
once the response or the last filler was received. -/
inductive Decision (v : State) : State → Prop where
  | failed (r : Reason) (retry acmd : Nat) (h : v.seq.readerShape ≠ none) :
      Decision v { v with retryCnt := retry, acmdCnt := acmd, seq := .fail r }
  | resetAgain (h : v.seq = .i1Resp) (hb : v.retryCnt + 1 < Config.resetRetries) :
      Decision v { v with retryCnt := v.retryCnt + 1, seq := .i1Send }
  | resetDone (h : v.seq = .i1Resp) : Decision v { v with retryCnt := v.retryCnt + 1, seq := .i2Send }
  | versionChecked (c : VersionClass) (hc : c = .legacy ∨ c = .v2) (h : v.seq = .i2Resp) :
      Decision v { v with cs := { v.cs with versionClass := c }, seq := .i3Send }
  | versionUnchecked (c : VersionClass) (hc : c = .legacy ∨ c = .v2) (h : v.seq = .i2Resp) :
      Decision v { v with cs := { v.cs with versionClass := c }, acmdCnt := 0, seq := .i4aSend }
  | voltageInWindow (h : v.seq = .i3Resp) : Decision v { v with acmdCnt := 0, seq := .i4aSend }
  | announced (h : v.seq = .i4aResp) : Decision v { v with seq := .i4bSend }
  | stillIdle (h : v.seq = .i4bResp) (hb : v.acmdCnt + 1 < v.params.acmd41Budget) :
      Decision v { v with acmdCnt := v.acmdCnt + 1, seq := .i4aSend }
  | askCapacity (h : v.seq = .i4bResp) (hc : v.cs.versionClass = .v2) :
      Decision v { v with acmdCnt := v.acmdCnt + 1, seq := .i5Send }
  | assumeStandard (h : v.seq = .i4bResp) (hc : v.cs.versionClass ≠ .v2) :
      Decision v { v with acmdCnt := v.acmdCnt + 1, capPending := .standard, seq := .i6Send }
  | foundStandard (h : v.seq = .i5Resp) : Decision v { v with capPending := .standard, seq := .i6Send }
  | foundHigh (h : v.seq = .i5Resp) : Decision v { v with capPending := .high, seq := .iDone }
  | blockLenSet (h : v.seq = .i6Resp) : Decision v { v with seq := .iDone }
  | readAccepted (h : v.seq = .rResp) : Decision v { v with tokCnt := 0, seq := .rToken }
  | writeAccepted (h : v.seq = .wResp) : Decision v { v with seq := .wToken }
  | written (h : v.seq = .wStResp) : Decision v { v with seq := .wDesel }

section decisions
variable {v : State}

theorem Decision.raise (h : v.seq.readerShape ≠ none) (r : Reason) : Decision v (raise r v) :=
  .failed r v.retryCnt v.acmdCnt h

theorem retryReset_decision (h : v.seq = .i1Resp) : Decision v (retryReset v) := by
  unfold retryReset
  split
  · exact .resetAgain h ‹_›
  · exact .failed .timeout (v.retryCnt + 1) v.acmdCnt (by rw [h]; nofun)

theorem decideVoltageCheck_decision (h : v.seq = .i2Resp) : Decision v (decideVoltageCheck v) := by
  have next {c : VersionClass} (hc : c = .legacy ∨ c = .v2) : Decision v (enterOcrCheck (setVersion c v)) := by
    unfold enterOcrCheck
    split
    · exact .versionChecked c hc h
    · exact .versionUnchecked c hc h
  unfold decideVoltageCheck
  split_ifs
  · exact next (.inl rfl)
  · exact next (.inr rfl)
  · exact .raise (by rw [h]; nofun) _

theorem decideOcrCheck_decision (h : v.seq = .i3Resp) : Decision v (decideOcrCheck v) := by
  unfold decideOcrCheck
  split_ifs
  · exact .raise (by rw [h]; nofun) _
  · exact .voltageInWindow h
  · exact .raise (by rw [h]; nofun) _

theorem enterCapacityDetect_decision (h : v.seq = .i4bResp) :
    Decision v (enterCapacityDetect { v with acmdCnt := v.acmdCnt + 1 }) := by
  unfold enterCapacityDetect
  split <;> rename_i hc
  · exact .askCapacity h hc
  · exact .assumeStandard h (hc ▸ nofun)
  · exact .assumeStandard h (hc ▸ nofun)

theorem decideAcmd41_decision (h : v.seq = .i4bResp) : Decision v (decideAcmd41 v) := by
  unfold decideAcmd41
  split_ifs
  · exact .stillIdle h ‹_›
  · exact .failed .timeout v.retryCnt (v.acmdCnt + 1) (by rw [h]; nofun)
  · exact enterCapacityDetect_decision h

theorem decideCapacity_decision (h : v.seq = .i5Resp) : Decision v (decideCapacity v) := by
  unfold decideCapacity
  split_ifs
  · exact .raise (by rw [h]; nofun) _
  · exact .foundHigh h
  · exact .foundStandard h

/-- At a response point the decision on a token is one of these. -/
theorem onToken_decision (h : v.seq.readerShape ≠ none) : Decision v (onToken v) := by
  cases hq : v.seq <;> rw [onToken, hq]
  case i1Resp =>
    dsimp only [decideReset]
    split
    · exact .resetDone hq
    · exact retryReset_decision hq
  case i2Resp => exact decideVoltageCheck_decision hq
  case i3Resp => exact decideOcrCheck_decision hq
  case i4aResp => exact .announced hq
  case i4bResp => exact decideAcmd41_decision hq
  case i5Resp => exact decideCapacity_decision hq
  case i6Resp =>
    dsimp only [decideBlockLen]
    split
    · exact .blockLenSet hq
    · exact .raise h _
  case rResp =>
    dsimp only [decideReadCommand]
    split
    · exact .readAccepted hq
    · exact .raise h _
  case wResp =>
    dsimp only [decideWriteCommand]
    split
    · exact .writeAccepted hq
    · exact .raise h _
  case wStResp =>
    dsimp only [decideCardStatus]
    split_ifs
    · exact .written hq
    · exact .raise h _
    · exact .raise h _
  all_goals exact absurd (by rw [hq]; rfl) h

/-- At a response point the decision on a reader Timeout is one of these too. -/
theorem onTimeout_decision (h : v.seq.readerShape ≠ none) : Decision v (onTimeout v) := by
  cases hq : v.seq <;> rw [onTimeout, hq]
  case i1Resp => exact retryReset_decision hq
  case i2Resp | i3Resp | i4aResp | i4bResp | i5Resp | i6Resp | rResp | wResp | wStResp => exact .raise h _
  all_goals exact absurd (by rw [hq]; rfl) h

end decisions

/-! ### Steps -/

/-- What one step can do. -/
inductive StepCase (s : State) : State → Prop where
  /-- IDLE: nothing to do, operation code 0, or a move that is not heard while `busy` = 1. -/
  | idle (moves : List HostMove) (h : s.seq = .idle) : StepCase s { s with hostQ := moves }
  | hostWrite (a : BitVec 9) (b : Byte) (moves : List HostMove) (h : s.seq = .idle) (hb : s.busy = false)
      (hm : s.hostQ = .bufWrite a b :: moves) :
      StepCase s { s with hostQ := moves, buf := Memory.write s.buf a.toNat b }
  | initAccepted (moves : List HostMove) (h : s.seq = .idle) (hb : s.busy = false) :
      StepCase s (goto .iClk (freshSession (accept 1#2 { s with hostQ := moves })))
  | readAccepted (i : Word32) (moves : List HostMove) (h : s.seq = .idle) (hb : s.busy = false)
      (hp : s.phase = .ready) :
      StepCase s { s with hostQ := moves, busy := true, done := false, op := 2#2, index := i, seq := .rSel }
  | writeAccepted (i : Word32) (moves : List HostMove) (h : s.seq = .idle) (hb : s.busy = false)
      (hp : s.phase = .ready) :
      StepCase s { s with hostQ := moves, busy := true, done := false, op := 3#2, index := i, seq := .wSel }
  | rejected (moves : List HostMove) (h : s.seq = .idle) (hb : s.busy = false) :
      StepCase s (rejectUninit { s with hostQ := moves })
  | clkInit (h : s.seq = .iClk) : StepCase s (goto .iSel (busSetClk s.params.clkDivInit s))
  | selectInit (h : s.seq = .iSel) : StepCase s (goto .i1Send (busSelect { s with retryCnt := 0 }))
  | command (i : Instr) (f : Frame) (h : commandAt s = some i) : StepCase s (withFrame f s)
  | polled (v : State) (h : s.seq.readerShape ≠ none) (hv : Received s v) (hp : s.pollCnt + 1 < Config.respBudget) :
      StepCase s v
  | decided (v t : State) (h : s.seq.readerShape ≠ none) (hv : Received s v) (hd : Decision v t) : StepCase s t
  | commit (h : s.seq = .iDone) : StepCase s (goto .iFast (busDeselect (commitSession s)))
  | clkFast (h : s.seq = .iFast) : StepCase s (deliver .ok (busSetClk s.params.clkDivFast s))
  | openBlock (next : Seq) (c : Capacity) (h : s.seq = .rSel ∧ next = .rSend ∨ s.seq = .wSel ∧ next = .wSend)
      (hc : s.cs.capacityClass = .known c) :
      StepCase s (goto next { busSelect s with addr := translateIndex c s.index })
  | tokenFound (h : s.seq = .rToken) :
      StepCase s { afterDraws 1 s with
        trace := s.trace ++ receives [0xFE#8], tokCnt := s.tokCnt + 1, seq := .rData }
  | tokenSkipped (b : Byte) (h : s.seq = .rToken) (hb : s.tokCnt + 1 < s.params.tokenBudget) :
      StepCase s { afterDraws 1 s with trace := s.trace ++ receives [b], tokCnt := s.tokCnt + 1 }
  | tokenTimeout (b : Byte) (h : s.seq = .rToken) :
      StepCase s { afterDraws 1 s with
        trace := s.trace ++ receives [b], tokCnt := s.tokCnt + 1, seq := .fail .timeout }
  | dataRead (payload : List Byte) (c0 c1 : Byte) (h : s.seq = .rData) (hl : payload.length = Config.blockSize) :
      StepCase s { afterDraws (Config.blockSize + 2) s with
        buf := Memory.writeBytes s.buf 0 payload
        trace := s.trace ++ receives payload ++ receives [c0, c1]
        byteIdx := 2
        seq := .rDesel }
  | tokenSent (h : s.seq = .wToken) :
      StepCase s { afterDraws 1 s with trace := s.trace ++ exchanges [0xFE#8] (envBytes 1 s), seq := .wData }
  | dataSent (h : s.seq = .wData) :
      StepCase s { afterDraws (Config.blockSize + 2) s with
        trace := s.trace ++ exchanges (bufBytes s.buf ++ [0xFF#8, 0xFF#8]) (envBytes (Config.blockSize + 2) s)
        byteIdx := 2
        seq := .wDresp }
  | dataAccepted (b : Byte) (h : s.seq = .wDresp) :
      StepCase s { afterDraws 1 s with trace := s.trace ++ receives [b], dresp := b, busyCnt := 0, seq := .wBusy }
  | dataRejected (b : Byte) (code : BitVec 5) (h : s.seq = .wDresp) :
      StepCase s { afterDraws 1 s with
        trace := s.trace ++ receives [b], dresp := b, seq := .fail (.writeRejected code) }
  | busyPolled (b : Byte) (h : s.seq = .wBusy) (hb : s.busyCnt + 1 < s.params.busyBudget) :
      StepCase s { afterDraws 1 s with trace := s.trace ++ receives [b], busyCnt := s.busyCnt + 1 }
  | busyTimeout (b : Byte) (h : s.seq = .wBusy) :
      StepCase s { afterDraws 1 s with
        trace := s.trace ++ receives [b], busyCnt := s.busyCnt + 1, seq := .fail .timeout }
  | released (b : Byte) (h : s.seq = .wBusy) :
      StepCase s { afterDraws 1 s with trace := s.trace ++ receives [b], busyCnt := s.busyCnt + 1, seq := .wStSend }
  | closed (h : s.seq = .rDesel ∨ s.seq = .wDesel) : StepCase s (deliver .ok (busDeselect s))
  | initFailed (r : Reason) (h : s.seq = .fail r) (ho : s.op = 1#2) :
      StepCase s (deliver r.code (busDeselect (failSession r s)))
  | blockFailed (r : Reason) (info : BitVec 5) (h : s.seq = .fail r) (ho : s.op ≠ 1#2) :
      StepCase s (deliver r.code (busDeselect { s with resInfo := info }))

section steps
variable {s t : State}

theorem acceptBlock_busy (code : BitVec 2) (first : Seq) (i : Word32) (h : s.busy = true) :
    acceptBlock code first i s = s := by
  rw [acceptBlock, if_pos h]

theorem acceptBlock_ready (code : BitVec 2) (first : Seq) (i : Word32) (h : s.busy = false) (hp : s.phase = .ready) :
    acceptBlock code first i s = goto first { accept code s with index := i } := by
  rw [acceptBlock, h, if_neg Bool.false_ne_true, if_pos hp]

theorem acceptBlock_notReady (code : BitVec 2) (first : Seq) (i : Word32) (h : s.busy = false)
    (hp : s.phase ≠ .ready) : acceptBlock code first i s = rejectUninit s := by
  rw [acceptBlock, h, if_neg Bool.false_ne_true, if_neg hp]

theorem execInit_busy (h : s.busy = true) : exec .init s = .next s := if_pos h

theorem execInit_accepted (h : s.busy = false) : exec .init s = .next (goto .iClk (freshSession (accept 1#2 s))) := by
  rw [exec, execInit, h, if_neg Bool.false_ne_true]

/-- R104: the operation a request asks for. -/
theorem decodeRequest_cases (op : BitVec 2) (i : Word32) :
    decodeRequest op i = .nop ∨ decodeRequest op i = .init ∨ decodeRequest op i = .readBlock i ∨
      decodeRequest op i = .writeBlock i := by
  unfold decodeRequest
  split_ifs <;> simp

/-- A request at IDLE, heard or not. -/
theorem stepCase_request {op : BitVec 2} {i : Word32} {moves : List HostMove} (h : s.seq = .idle)
    (hs : exec (decodeRequest op i) { s with hostQ := moves } = .next t) : StepCase s t := by
  cases hb : s.busy with
  | true =>
    have same : t = { s with hostQ := moves } := by
      obtain hi | hi | hi | hi := decodeRequest_cases op i <;> rw [hi] at hs <;>
        simpa [exec, execNop, execInit, execReadBlock, execWriteBlock, acceptBlock, hb, eq_comm] using hs
    exact same ▸ .idle moves h
  | false =>
    obtain hi | hi | hi | hi := decodeRequest_cases op i <;> rw [hi] at hs
    · cases hs
      exact .idle moves h
    · rw [execInit_accepted (by exact hb)] at hs
      cases hs
      exact .initAccepted moves h hb
    · by_cases hp : s.phase = .ready
      · rw [exec, execReadBlock, acceptBlock_ready _ _ _ (by exact hb) (by exact hp)] at hs
        cases hs
        exact .readAccepted i moves h hb hp
      · rw [exec, execReadBlock, acceptBlock_notReady _ _ _ (by exact hb) (by exact hp)] at hs
        cases hs
        exact .rejected moves h hb
    · by_cases hp : s.phase = .ready
      · rw [exec, execWriteBlock, acceptBlock_ready _ _ _ (by exact hb) (by exact hp)] at hs
        cases hs
        exact .writeAccepted i moves h hb hp
      · rw [exec, execWriteBlock, acceptBlock_notReady _ _ _ (by exact hb) (by exact hp)] at hs
        cases hs
        exact .rejected moves h hb

/-- At a response point: another poll, or a decision. -/
theorem stepCase_response {sh : Shape} (h : s.seq.readerShape = some sh) (hs : step s = .next t) : StepCase s t := by
  have hr : s.seq.readerShape ≠ none := h ▸ nofun
  match step_reader h hs with
  | .again _ hv hp => exact .polled t hr hv hp
  | .last v hv => exact .decided v _ hr hv (onTimeout_decision (hv.seq ▸ hr))
  | .token v hv => exact .decided v _ hr hv (onToken_decision (hv.seq ▸ hr))

/-- At IDLE: what the host's next move makes. -/
theorem stepCase_idle (h : s.seq = .idle) (hs : step s = .next t) : StepCase s t := by
  have hsel : select s = selectIdle s := by rw [select, h]
  unfold selectIdle at hsel
  split at hsel
  · rw [step_of_control hsel] at hs
    cases hs
    exact .idle s.hostQ h
  · rw [step_of_instr hsel] at hs
    exact stepCase_request h hs
  · rename_i a b moves hm
    rw [step_of_control hsel] at hs
    cases hb : s.busy with
    | true =>
      rw [perform, if_pos (by exact hb)] at hs
      cases hs
      exact .idle moves h
    | false =>
      rw [perform, if_neg (by simp [hb])] at hs
      cases hs
      exact .hostWrite a b moves h hb hm

/-- At R_SEL and W_SEL a step that does not stop had a class to translate for. -/
theorem stepCase_openBlock {next : Seq} (h : s.seq = .rSel ∧ next = .rSend ∨ s.seq = .wSel ∧ next = .wSend)
    (hsel : select s = .control (.openBlock next) s) (hs : step s = .next t) : StepCase s t := by
  rw [step_of_control hsel, perform] at hs
  split at hs <;> cases hs
  exact .openBlock next _ h ‹_›

/-- At R_TOKEN: the token, or a byte skipped. -/
theorem stepCase_token (h : s.seq = .rToken) (hs : step s = .next t) : StepCase s t := by
  have hsel : select s = selectToken s := by rw [select, h]
  by_cases hb : (draw s).1 = Config.startToken
  · rw [selectToken_found hb, draw_state] at hsel
    rw [step_of_instr hsel, exec, execStartToken, if_pos (by exact h)] at hs
    cases hs
    exact .tokenFound h
  · rw [selectToken_skip hb, draw_state] at hsel
    rw [step_of_control hsel, perform, skipTokenByte] at hs
    split at hs <;> cases hs
    · exact .tokenSkipped _ h ‹_›
    · exact .tokenTimeout _ h

theorem stepCase_readData (h : s.seq = .rData) (hs : step s = .next t) : StepCase s t := by
  obtain ⟨payload, c0, c1, hl, -, hsel⟩ := selectReadData_cases s
  have hsel : select s = _ := (show select s = selectReadData s by rw [select, h]).trans hsel
  rw [step_of_instr hsel, exec_readData] at hs
  cases hs
  exact .dataRead payload c0 c1 h hl

theorem stepCase_sendToken (h : s.seq = .wToken) (hs : step s = .next t) : StepCase s t := by
  have hsel : select s = .instr .startToken s := by rw [select, h]
  rw [step_of_instr hsel, exec, execStartToken, if_neg (by rw [h]; nofun), xchgSend_eq] at hs
  cases hs
  exact .tokenSent h

theorem stepCase_writeData (h : s.seq = .wData) (hs : step s = .next t) : StepCase s t := by
  have hsel : select s = .instr (.writeData (bufBytes s.buf)) s := by rw [select, h]
  rw [step_of_instr hsel, exec_writeData, bufBytes_length] at hs
  cases hs
  exact .dataSent h

theorem stepCase_dataResp (h : s.seq = .wDresp) (hs : step s = .next t) : StepCase s t := by
  have hsel : select s = selectDataResp s := by rw [select, h]
  rw [selectDataResp_eq, draw_state] at hsel
  rw [step_of_instr hsel, exec, execDataResp, dataRespByte_extract] at hs
  split at hs <;> cases hs
  · exact .dataAccepted _ h
  · exact .dataRejected _ _ h

/-- At W_BUSY: one poll, which ends the wait, uses up its budget, or neither. -/
theorem stepCase_busy (h : s.seq = .wBusy) (hs : step s = .next t) : StepCase s t := by
  have hsel : select s = .control (.busy (draw s).1) (draw s).2 := by rw [select, h]
  rw [step_of_control hsel, draw_state, perform, busyWaitByte] at hs
  split_ifs at hs <;> cases hs
  · exact .busyPolled _ h ‹_›
  · exact .busyTimeout _ h
  · exact .released _ h

theorem stepCase_fail {r : Reason} (h : s.seq = .fail r) (hs : step s = .next t) : StepCase s t := by
  rw [step_of_fail h] at hs
  by_cases ho : s.op = 1#2
  · rw [failExit_of_init ho] at hs
    cases hs
    exact .initFailed r h ho
  · have info : recordInfo r s = { s with resInfo := (recordInfo r s).resInfo } := by cases r <;> rfl
    rw [failExit_of_not_init ho, info] at hs
    cases hs
    exact .blockFailed r _ h ho

/-- What a step does is one of these. -/
theorem step_cases (hs : step s = .next t) : StepCase s t := by
  have control {c : Control} (hsel : select s = .control c s) : perform c s = .next t :=
    (step_of_control hsel).symm.trans hs
  cases h : s.seq
  case idle => exact stepCase_idle h hs
  case rSel => exact stepCase_openBlock (.inl ⟨h, rfl⟩) (by rw [select, h]) hs
  case wSel => exact stepCase_openBlock (.inr ⟨h, rfl⟩) (by rw [select, h]) hs
  case rToken => exact stepCase_token h hs
  case rData => exact stepCase_readData h hs
  case wToken => exact stepCase_sendToken h hs
  case wData => exact stepCase_writeData h hs
  case wDresp => exact stepCase_dataResp h hs
  case iClk =>
    cases control (c := .clkInit) (by rw [select, h])
    exact .clkInit h
  case iSel =>
    cases control (c := .selectInit) (by rw [select, h])
    exact .selectInit h
  case iDone =>
    cases control (c := .commit) (by rw [select, h])
    exact .commit h
  case iFast =>
    cases control (c := .clkFast) (by rw [select, h])
    exact .clkFast h
  case wBusy => exact stepCase_busy h hs
  case rDesel =>
    cases control (c := .close) (by rw [select, h])
    exact .closed (.inl h)
  case wDesel =>
    cases control (c := .close) (by rw [select, h])
    exact .closed (.inr h)
  case fail r => exact stepCase_fail h hs
  case i1Resp | i2Resp | i3Resp | i4aResp | i4bResp | i5Resp | i6Resp | rResp | wResp | wStResp =>
    exact stepCase_response (by rw [h]; rfl) hs
  all_goals
    obtain ⟨i, hi⟩ : ∃ i, commandAt s = some i := by rw [commandAt, h]; exact ⟨_, rfl⟩
    obtain ⟨f, -, hf⟩ := step_command hi
    cases hf.symm.trans hs
    exact .command i f hi

end steps

end Sys2Proof.Machine
end

section
/-!
PROOFS. The invariant (spec R40): kept by every step, read off `step_cases`. The steps inside an operation, between
select and deselect, share one argument (`Within.inv`); the others are the sequencer's own actions at the ends of
operations.
-/

namespace Sys2Proof.Machine

/-! ### The reset state -/

/-- Settles O46: with nothing placed and every counter 0, each part is a closed fact; the budgets are successors. -/
theorem resetIsConsistent : Obligations.ResetIsConsistent := by
  unfold Obligations.ResetIsConsistent
  refine ⟨⟨by decide, nofun, nofun, rfl, by decide, by decide, rfl, rfl, trivial⟩,
    ⟨nofun, nofun, nofun, nofun, nofun, ?admissible⟩⟩
  case admissible => exact ⟨Nat.le_add_left .., Nat.le_add_left .., Nat.le_add_left ..⟩

/-! ### What the invariant says of the handshake and the bus -/

section invariant
variable {s t v : State}

theorem State.Inv.busy_of_not_idle (hs : s.Inv) (h : s.seq ≠ .idle) : s.busy = true :=
  Bool.eq_true_of_not_eq_false (mt hs.idle.mp h)

/-- One more event, read at the level of the program point. -/
theorem State.Inv.bus_append (hs : s.Inv) {events : List BusEvent} {level : Bool}
    (h : chipSelect s.seq.selectedAt events = some level) : chipSelect false (s.trace ++ events) = some level := by
  rw [chipSelect_append, hs.bus]
  exact h

/-- A step that leaves Card State and the phase alone keeps the invariant when it keeps the rest of it. -/
theorem State.Inv.of_sameSession (hs : s.Inv) (hcs : t.cs = s.cs) (hphase : t.phase = s.phase)
    (handshake : ¬ (t.busy = true ∧ t.done = true)) (idle : t.busy = false ↔ t.seq = .idle)
    (bus : chipSelect false t.trace = some t.seq.selectedAt) (memory : Memory.wf t.buf = true) (point : pointOk t) :
    t.Inv where
  capacity := by rw [hcs, hphase]; exact hs.capacity
  version := by rw [hcs, hphase]; exact hs.version
  legacy := by rw [hcs, hphase]; exact hs.legacy
  unprotected := by rw [hcs]; exact hs.unprotected
  handshake := handshake
  idle := idle
  bus := bus
  memory := memory
  point := point

/-! ### Program points -/

/-- `pointOk` reads five registers. -/
theorem pointOk_of_eq (hseq : t.seq = s.seq) (hop : t.op = s.op) (hphase : t.phase = s.phase) (hcs : t.cs = s.cs)
    (hcap : t.capPending = s.capPending) (h : pointOk s) : pointOk t := by
  unfold pointOk versionFound duringInit at h ⊢
  rw [hseq, hop, hphase, hcs, hcap]
  exact h

theorem selectedAt_of_readerShape {q : Seq} (h : q.readerShape ≠ none) : q.selectedAt = true := by
  cases q <;> first | rfl | exact absurd rfl h

theorem selectedAt_of_commandAt {i : Instr} (h : commandAt s = some i) :
    s.seq.selectedAt = true ∧ s.seq.afterSend.selectedAt = true := by
  unfold commandAt at h
  split at h <;> cases h <;> rename_i hq <;> rw [hq] <;> exact ⟨rfl, rfl⟩

theorem not_idle_of_selectedAt {q : Seq} (h : q.selectedAt = true) : q ≠ .idle := by
  rintro rfl
  cases h

/-- What a send point implies holds at the point that reads the response too. -/
theorem pointOk_withFrame {i : Instr} (f : Frame) (h : commandAt s = some i) (hp : pointOk s) :
    pointOk (withFrame f s) := by
  unfold commandAt at h
  split at h <;> cases h <;> rename_i hq <;> simp only [pointOk, hq] at hp <;>
    simp only [pointOk, withFrame, hq, Seq.afterSend] <;> exact hp

/-- A failure at a point between select and deselect belongs to INIT or to a block operation in Ready. -/
theorem pointOk_fail (h : s.seq.selectedAt = true) (hp : pointOk s) :
    duringInit s ∨ ((s.op = 2#2 ∨ s.op = 3#2) ∧ s.phase = .ready) := by
  cases hq : s.seq <;> rw [hq] at h <;> rw [pointOk, hq] at hp
  case idle | iClk | iSel | iFast | rSel | wSel => cases h
  case fail r => exact hp
  case rSend | rResp | rToken | rData | rDesel => exact .inr ⟨.inl hp.1, hp.2⟩
  case wSend | wResp | wToken | wData | wDresp | wBusy | wStSend | wStResp | wDesel => exact .inr ⟨.inr hp.1, hp.2⟩
  case i1Send | i1Resp | i2Send | i2Resp => exact .inl hp
  case i3Send | i3Resp | i4aSend | i4aResp | i4bSend | i4bResp | i5Send | i5Resp => exact .inl hp.1
  case i6Send | i6Resp | iDone => exact .inl hp.1.1

/-- What the program point implies is carried over every decision. -/
theorem Decision.pointOk (hd : Decision v t) (hp : pointOk v) : pointOk t := by
  cases hd
  case failed r retry acmd h => exact pointOk_fail (s := v) (selectedAt_of_readerShape h) hp
  case versionChecked c hc h | versionUnchecked c hc h =>
    rw [Machine.pointOk, h] at hp
    exact ⟨hp, by rcases hc with rfl | rfl <;> nofun⟩
  case assumeStandard h hc =>
    rw [Machine.pointOk, h] at hp
    exact ⟨hp, rfl⟩
  case askCapacity h hc =>
    rw [Machine.pointOk, h] at hp
    exact ⟨hp.1, hc⟩
  case foundStandard h =>
    rw [Machine.pointOk, h] at hp
    exact ⟨⟨hp.1, by rw [hp.2]; nofun⟩, rfl⟩
  case foundHigh h =>
    rw [Machine.pointOk, h] at hp
    exact ⟨⟨hp.1, by rw [hp.2]; nofun⟩, by rw [hp.2]; nofun⟩
  case blockLenSet h =>
    rw [Machine.pointOk, h] at hp
    exact ⟨hp.1, fun _ => hp.2⟩
  case resetAgain h _ | stillIdle h _ =>
    rw [Machine.pointOk, h] at hp
    exact hp
  all_goals
    rename_i h
    rw [Machine.pointOk, h] at hp
    exact hp

theorem Decision.selectedAt (hd : Decision v t) : t.seq.selectedAt = true := by
  cases hd <;> rfl

/-! ### Steps inside an operation -/

/-- A step between select and deselect: exchanges only, and of Card State, phase and handshake nothing changes but the
version class while INIT runs. -/
structure Within (s t : State) : Prop where
  start : s.seq.selectedAt = true
  stop : t.seq.selectedAt = true
  phase : t.phase = s.phase
  busy : t.busy = s.busy
  done : t.done = s.done
  capacityClass : t.cs.capacityClass = s.cs.capacityClass
  writeProtected : t.cs.writeProtected = s.cs.writeProtected
  versionClass : s.phase = .ready → t.cs.versionClass = s.cs.versionClass
  memory : Memory.wf s.buf = true → Memory.wf t.buf = true
  trace : ∃ events, AllExchanges events ∧ t.trace = s.trace ++ events

theorem Within.inv (h : Within s t) (hs : s.Inv) (hp : pointOk t) : t.Inv where
  capacity := by rw [h.capacityClass, h.phase]; exact hs.capacity
  version hr := by rw [h.phase] at hr; rw [h.versionClass hr]; exact hs.version hr
  legacy hr hl := by
    rw [h.phase] at hr
    rw [h.versionClass hr] at hl
    rw [h.capacityClass]
    exact hs.legacy hr hl
  unprotected := by rw [h.writeProtected]; exact hs.unprotected
  handshake := by rw [h.busy, h.done]; exact hs.handshake
  idle := by
    have hb := hs.busy_of_not_idle (not_idle_of_selectedAt h.start)
    rw [h.busy, hb]
    exact ⟨nofun, fun hq => absurd hq (not_idle_of_selectedAt h.stop)⟩
  bus := by
    obtain ⟨events, hx, htr⟩ := h.trace
    rw [htr, h.stop]
    exact hs.bus_append (by rw [h.start, chipSelect_exchanges hx])
  memory := h.memory hs.memory
  point := hp

/-- A version class written by a decision was written while INIT runs. -/
theorem Decision.versionClass (hd : Decision v t) (hp : Machine.pointOk v) (hr : v.phase = .ready) :
    t.cs.versionClass = v.cs.versionClass := by
  cases hd
  case versionChecked c hc h | versionUnchecked c hc h =>
    rw [Machine.pointOk, h] at hp
    exact absurd (hp.2.symm.trans hr) nofun
  all_goals rfl

theorem Decision.within (hd : Decision v t) (h : v.seq.readerShape ≠ none) (hp : Machine.pointOk v) : Within v t where
  start := selectedAt_of_readerShape h
  stop := hd.selectedAt
  phase := by cases hd <;> rfl
  busy := by cases hd <;> rfl
  done := by cases hd <;> rfl
  capacityClass := by cases hd <;> rfl
  writeProtected := by cases hd <;> rfl
  versionClass := hd.versionClass hp
  memory := by cases hd <;> exact id
  trace := ⟨[], nofun, by rw [List.append_nil]; cases hd <;> rfl⟩

theorem Received.within (hv : Received s v) (h : s.seq.readerShape ≠ none) : Within s v where
  start := selectedAt_of_readerShape h
  stop := by rw [hv.seq]; exact selectedAt_of_readerShape h
  phase := hv.phase
  busy := hv.busy
  done := hv.done
  capacityClass := by rw [hv.cs]
  writeProtected := by rw [hv.cs]
  versionClass _ := by rw [hv.cs]
  memory := by rw [hv.buf]; exact id
  trace := by
    obtain ⟨bytes, -, htr⟩ := hv.trace
    exact ⟨_, allExchanges_receives bytes, htr⟩

theorem Received.pointOk (hv : Received s v) (hp : Machine.pointOk s) : Machine.pointOk v :=
  pointOk_of_eq hv.seq hv.op hv.phase hv.cs hv.capPending hp

/-- A step that changes the trace by exchanges, and beside it nothing the invariant speaks of but the program point. -/
theorem State.Inv.of_exchanges (hs : s.Inv) (start : s.seq.selectedAt = true) (stop : t.seq.selectedAt = true)
    (hcs : t.cs = s.cs) (hphase : t.phase = s.phase) (hbusy : t.busy = s.busy) (hdone : t.done = s.done)
    (memory : Memory.wf s.buf = true → Memory.wf t.buf = true)
    (trace : ∃ events, AllExchanges events ∧ t.trace = s.trace ++ events) (point : pointOk t) : t.Inv :=
  Within.inv ⟨start, stop, hphase, hbusy, hdone, by rw [hcs], by rw [hcs], fun _ => by rw [hcs], memory, trace⟩ hs point

/-- `busy` tells IDLE from every other point. -/
theorem State.Inv.idle_iff (hs : s.Inv) {q : Seq} (h : s.seq ≠ .idle) (hq : q ≠ .idle) :
    s.busy = false ↔ q = .idle := by
  rw [hs.busy_of_not_idle h]
  exact ⟨nofun, fun he => absurd he hq⟩

/-- Every step keeps the invariant. -/
theorem StepCase.inv (h : StepCase s t) (hs : s.Inv) : t.Inv := by
  have hp := hs.point
  cases h
  case idle moves h =>
    exact hs.of_sameSession rfl rfl hs.handshake hs.idle hs.bus hs.memory (by rw [pointOk, h]; trivial)
  case hostWrite a b moves h hb hm =>
    exact hs.of_sameSession rfl rfl hs.handshake hs.idle hs.bus (Memory.write_wf a.isLt hs.memory)
      (by rw [pointOk, h]; trivial)
  case initAccepted moves h hb =>
    have bus := hs.bus
    rw [h] at bus
    exact ⟨⟨nofun, nofun⟩, nofun, nofun, rfl, nofun, ⟨nofun, nofun⟩, bus, hs.memory, ⟨rfl, rfl⟩⟩
  case readAccepted i moves h hb hr | writeAccepted i moves h hb hr =>
    have bus := hs.bus
    rw [h] at bus
    exact hs.of_sameSession rfl rfl nofun ⟨nofun, nofun⟩ bus hs.memory ⟨rfl, hr⟩
  case rejected moves h hb =>
    exact hs.of_sameSession rfl rfl (fun hbd => Bool.false_ne_true (hb.symm.trans hbd.1)) hs.idle hs.bus hs.memory
      (by rw [pointOk, rejectUninit_seq, h]; trivial)
  case command i f h =>
    obtain ⟨start, stop⟩ := selectedAt_of_commandAt h
    exact hs.of_exchanges start stop rfl rfl rfl rfl id ⟨_, allExchanges_exchanges _ _, rfl⟩ (pointOk_withFrame f h hp)
  case polled h hb hv => exact (hv.within h).inv hs (hv.pointOk hp)
  case decided v h hv hd =>
    have hvp := hv.pointOk hp
    exact (hd.within (hv.seq ▸ h) hvp).inv ((hv.within h).inv hs hvp) (hd.pointOk hvp)
  case clkInit h | selectInit h =>
    rw [pointOk, h] at hp
    exact hs.of_sameSession rfl rfl hs.handshake (hs.idle_iff (by rw [h]; nofun) nofun) (hs.bus_append (by rw [h]; rfl))
      hs.memory hp
  case openBlock next c h hc =>
    obtain ⟨h, rfl⟩ | ⟨h, rfl⟩ := h <;>
    · rw [pointOk, h] at hp
      exact hs.of_sameSession rfl rfl hs.handshake (hs.idle_iff (by rw [h]; nofun) nofun)
        (hs.bus_append (by rw [h]; rfl)) hs.memory hp
  case tokenSkipped b h hb | busyPolled b h hb =>
    have start : s.seq.selectedAt = true := by rw [h]; rfl
    exact hs.of_exchanges start start rfl rfl rfl rfl id ⟨_, allExchanges_receives [b], rfl⟩
      (pointOk_of_eq rfl rfl rfl rfl rfl hp)
  case tokenTimeout b h | dataRejected b code h | busyTimeout b h =>
    have start : s.seq.selectedAt = true := by rw [h]; rfl
    exact hs.of_exchanges start rfl rfl rfl rfl rfl id ⟨_, allExchanges_receives [b], rfl⟩
      (pointOk_fail (s := s) start hp)
  case tokenFound h | dataAccepted b h | released b h =>
    rw [pointOk, h] at hp
    exact hs.of_exchanges (by rw [h]; rfl) rfl rfl rfl rfl rfl id ⟨_, allExchanges_receives _, rfl⟩ hp
  case tokenSent h | dataSent h =>
    rw [pointOk, h] at hp
    exact hs.of_exchanges (by rw [h]; rfl) rfl rfl rfl rfl rfl id ⟨_, allExchanges_exchanges _ _, rfl⟩ hp
  case dataRead payload c0 c1 h hl =>
    rw [pointOk, h] at hp
    exact hs.of_exchanges (by rw [h]; rfl) rfl rfl rfl rfl rfl (Memory.writeBytes_wf (by omega))
      ⟨_, allExchanges_receives (payload ++ [c0, c1]), by rw [receives_append, ← List.append_assoc]⟩ hp
  case commit h =>
    rw [pointOk, h] at hp
    obtain ⟨⟨⟨hop, -⟩, hversion⟩, hlegacy⟩ := hp
    exact ⟨⟨fun _ => rfl, fun _ => nofun⟩, fun _ => hversion, fun _ hl => congrArg _ (hlegacy hl), hs.unprotected,
      hs.handshake, hs.idle_iff (by rw [h]; nofun) nofun, hs.bus_append (by rw [h]; rfl), hs.memory, ⟨hop, rfl⟩⟩
  case clkFast h =>
    exact hs.of_sameSession rfl rfl nofun ⟨fun _ => rfl, fun _ => rfl⟩
      (hs.bus_append (by rw [h]; rfl)) hs.memory trivial
  case closed h =>
    have level : s.seq.selectedAt = true := by rcases h with h | h <;> rw [h] <;> rfl
    exact hs.of_sameSession rfl rfl nofun ⟨fun _ => rfl, fun _ => rfl⟩ (hs.bus_append (by rw [level]; rfl)) hs.memory
      trivial
  case initFailed r h ho =>
    have unknown := hs.capacityClass_unknown (by rw [hs.phase_uninit_of_fail h ho]; nofun)
    exact ⟨⟨fun hc => absurd unknown hc, nofun⟩, nofun, nofun, hs.unprotected, nofun, ⟨fun _ => rfl, fun _ => rfl⟩,
      hs.bus_append (by rw [h]; rfl), hs.memory, trivial⟩
  case blockFailed r info h ho =>
    exact hs.of_sameSession rfl rfl nofun ⟨fun _ => rfl, fun _ => rfl⟩
      (hs.bus_append (by rw [h]; rfl)) hs.memory trivial

/-- Settles O47: a step is one of `StepCase`, each of which keeps the invariant. -/
theorem stepKeepsConsistency : Obligations.StepKeepsConsistency := by
  unfold Obligations.StepKeepsConsistency
  exact fun s t hs h => (step_cases h).inv hs

/-! ### No stop -/

theorem selectResponse_instr {sh : Shape} (h : sh ≠ .r1b) (s : State) : ∃ i u, selectResponse sh s = .instr i u := by
  rcases selectResponse_cases sh h s with ⟨x, hx⟩ | ⟨-, st, hx⟩ | ⟨-, st, b, n, hx⟩ | ⟨-, st, p, n, hx⟩ |
    ⟨-, st, p, n, hx⟩ <;> exact ⟨_, _, hx⟩

/-- The translator is used at R_SEL and W_SEL only. -/
theorem seq_of_select_openBlock {q : Seq} {u : State} (h : select s = .control (.openBlock q) u) :
    u = s ∧ (s.seq = .rSel ∨ s.seq = .wSel) := by
  have response {sh : Shape} (hsh : sh ≠ .r1b) : selectResponse sh s ≠ .control (.openBlock q) u := by
    obtain ⟨i, v, hi⟩ := selectResponse_instr hsh s
    rw [hi]
    nofun
  cases hq : s.seq <;> rw [select, hq] at h
  case rSel =>
    cases h
    exact ⟨rfl, .inl rfl⟩
  case wSel =>
    cases h
    exact ⟨rfl, .inr rfl⟩
  case idle =>
    dsimp only [selectIdle] at h
    split at h <;> cases h
  case rToken =>
    by_cases hb : (draw s).1 = Config.startToken
    · rw [selectToken_found hb] at h
      cases h
    · rw [selectToken_skip hb] at h
      cases h
  case rData =>
    obtain ⟨payload, c0, c1, -, -, hd⟩ := selectReadData_cases s
    cases hd.symm.trans h
  case wDresp => cases (selectDataResp_eq s).symm.trans h
  case i1Resp | i2Resp | i3Resp | i4aResp | i4bResp | i5Resp | i6Resp | rResp | wResp | wStResp =>
    exact absurd h (response nofun)
  all_goals cases h

/-- Every action of the sequencer answers a next state, but the translation of an Unknown class. -/
theorem perform_next {c : Control} (h : ∀ q, c = .openBlock q → s.cs.capacityClass ≠ .unknown) :
    ∃ t, perform c s = .next t := by
  cases c
  case openBlock q =>
    rw [perform]
    split
    · exact absurd ‹_› (h q rfl)
    · exact ⟨_, rfl⟩
  all_goals exact ⟨_, rfl⟩

/-- Settles O49: an instruction always answers, bytes are always decoded, and the one action that can stop needs the
class Unknown, which the phase Ready at R_SEL and W_SEL excludes. -/
theorem consistentStatesNeverStop : Obligations.ConsistentStatesNeverStop := by
  unfold Obligations.ConsistentStatesNeverStop
  intro s hs
  cases hsel : select s with
  | undecoded => exact absurd hsel (select_ne_undecoded s)
  | instr i u =>
    rw [step_of_instr hsel]
    exact exec_next i u
  | control c u =>
    rw [step_of_control hsel]
    refine perform_next fun q hc => ?_
    subst hc
    obtain ⟨rfl, hq⟩ := seq_of_select_openBlock hsel
    have hp := hs.point
    refine hs.capacity.mpr ?_
    obtain hq | hq := hq <;> rw [pointOk, hq] at hp <;> exact hp.2

end invariant

end Sys2Proof.Machine
end

section
/-!
PROOFS. What a step writes (spec R21, R22, R34, R36, R252): the registers that change in few places, the counters and
their budgets, and the Ready exit of INIT (R188). Everything is read off `step_cases`.
-/

namespace Sys2Proof.Machine

/-! ### The counters -/

section counters
variable {s t v : State}

/-- A program point at which no counter is compared with its budget. -/
def Seq.uncounted (q : Seq) : Prop :=
  q.readerShape = none ∧ q ∉ [.i1Send, .i1Resp, .i4aSend, .i4aResp, .i4bSend, .i4bResp, .wBusy, .rToken]

/-- There the counters are below whatever they are. -/
theorem countersBelow_of_uncounted (h : t.seq.uncounted) (adm : t.params.Admissible) : t.CountersBelow := by
  obtain ⟨hr, hq⟩ := h
  simp only [List.mem_cons, List.not_mem_nil, or_false, not_or] at hq
  refine ⟨fun h => absurd hr h, fun h => ?_, fun h => ?_, fun h => ?_, fun h => ?_, adm⟩ <;> simp [hq] at h

/-- A decision leaves the counters below their budgets when the count of step 4 is below its own. -/
theorem Decision.countersBelow (hd : Decision v t) (adm : v.params.Admissible)
    (acmd : v.seq = .i4aResp → v.acmdCnt < v.params.acmd41Budget) : t.CountersBelow := by
  cases hd
  case resetAgain h hb => exact ⟨fun h => absurd rfl h, fun _ => hb, nofun, nofun, nofun, adm⟩
  case versionUnchecked c hc h => exact ⟨fun h => absurd rfl h, nofun, fun _ => adm.2.2, nofun, nofun, adm⟩
  case voltageInWindow h => exact ⟨fun h => absurd rfl h, nofun, fun _ => adm.2.2, nofun, nofun, adm⟩
  case announced h => exact ⟨fun h => absurd rfl h, nofun, fun _ => acmd h, nofun, nofun, adm⟩
  case stillIdle h hb => exact ⟨fun h => absurd rfl h, nofun, fun _ => hb, nofun, nofun, adm⟩
  case readAccepted h => exact ⟨fun h => absurd rfl h, nofun, nofun, nofun, fun _ => adm.2.1, adm⟩
  all_goals exact countersBelow_of_uncounted ⟨rfl, by simp⟩ adm

theorem afterSend_cases (q : Seq) :
    (q.afterSend = .i1Send ∨ q.afterSend = .i1Resp → q = .i1Send ∨ q = .i1Resp) ∧
    (q.afterSend = .i4aSend ∨ q.afterSend = .i4aResp ∨ q.afterSend = .i4bSend ∨ q.afterSend = .i4bResp →
      q = .i4aSend ∨ q = .i4aResp ∨ q = .i4bSend ∨ q = .i4bResp) ∧
    (q.afterSend = .wBusy → q = .wBusy) ∧ (q.afterSend = .rToken → q = .rToken) := by
  cases q <;> simp [Seq.afterSend]

/-- Every step keeps the counters below their budgets. -/
theorem StepCase.countersBelow (h : StepCase s t) (hs : s.CountersBelow) : t.CountersBelow := by
  have adm := hs.admissible
  cases h
  case idle moves h | hostWrite a b moves h hb hm =>
    exact ⟨hs.poll, hs.retry, hs.acmd, hs.busy, hs.token, adm⟩
  case rejected moves h hb => exact ⟨hs.poll, hs.retry, hs.acmd, hs.busy, hs.token, adm⟩
  case selectInit h =>
    exact ⟨fun h => absurd rfl h, fun _ => (by decide : 0 < Config.resetRetries), nofun, nofun, nofun, adm⟩
  case command i f h =>
    obtain ⟨retry, acmd, busy, token⟩ := afterSend_cases s.seq
    exact ⟨fun _ => (by decide : 0 < Config.respBudget), hs.retry ∘ retry, hs.acmd ∘ acmd, hs.busy ∘ busy,
      hs.token ∘ token, adm⟩
  case polled h hb hv =>
    refine ⟨fun _ => by rw [hv.pollCnt]; exact hb, ?_, ?_, ?_, ?_, by rw [hv.params]; exact adm⟩
    · rw [hv.seq, hv.retryCnt]; exact hs.retry
    · rw [hv.seq, hv.acmdCnt, hv.params]; exact hs.acmd
    · rw [hv.seq, hv.busyCnt, hv.params]; exact hs.busy
    · rw [hv.seq, hv.tokCnt, hv.params]; exact hs.token
  case decided v h hv hd =>
    refine hd.countersBelow (by rw [hv.params]; exact adm) fun hq => ?_
    rw [hv.acmdCnt, hv.params]
    exact hs.acmd (.inr (.inl (hv.seq ▸ hq)))
  case openBlock next c h hc =>
    obtain ⟨-, rfl⟩ | ⟨-, rfl⟩ := h <;> exact countersBelow_of_uncounted ⟨rfl, by simp⟩ adm
  case tokenSkipped b h hb => exact ⟨hs.poll, hs.retry, hs.acmd, hs.busy, fun _ => hb, adm⟩
  case dataAccepted b h => exact ⟨fun h => absurd rfl h, nofun, nofun, fun _ => adm.1, nofun, adm⟩
  case busyPolled b h hb => exact ⟨hs.poll, hs.retry, hs.acmd, fun _ => hb, hs.token, adm⟩
  all_goals exact countersBelow_of_uncounted ⟨rfl, by simp⟩ adm

end counters

/-- Settles O48: a step is one of `StepCase`, each of which counts only below the budget it compares with. -/
theorem stepKeepsCountersBelow : Obligations.StepKeepsCountersBelow := by
  unfold Obligations.StepKeepsCountersBelow
  exact fun s t hs h => (step_cases h).countersBelow hs

/-! ### Card State and the phase -/

/-- Settles O50: of the steps that are neither of the three, each leaves Card State as it was. -/
theorem cardStateIsWrittenInThreePlaces : Obligations.CardStateIsWrittenInThreePlaces := by
  unfold Obligations.CardStateIsWrittenInThreePlaces
  intro s t hs hne
  cases step_cases hs
  case initAccepted moves h hb => exact .inl ⟨h, rfl, rfl⟩
  case commit h => exact .inr (.inr ⟨h, rfl, rfl⟩)
  case polled h hb hv => exact absurd hv.cs hne
  case decided v h hv hd =>
    rw [← hv.cs] at hne
    refine .inr (.inl ?_)
    cases hd
    case versionChecked c hc h | versionUnchecked c hc h =>
      rw [hv.seq] at h
      rw [hv.cs]
      exact ⟨h, hc.imp (fun he => by rw [he]) (fun he => by rw [he])⟩
    all_goals exact absurd rfl hne
  all_goals exact absurd rfl hne

/-- Settles O51: of the steps that are neither of the three, each leaves the phase as it was. -/
theorem phaseChangesInThreePlaces : Obligations.PhaseChangesInThreePlaces := by
  unfold Obligations.PhaseChangesInThreePlaces
  intro s t hs hne
  cases step_cases hs
  case initAccepted moves h hb => exact .inl ⟨h, rfl, rfl⟩
  case commit h => exact .inr (.inl ⟨h, rfl⟩)
  case initFailed r h ho => exact .inr (.inr ⟨ho, ⟨r, h⟩, rfl⟩)
  case polled h hb hv => exact absurd hv.phase hne
  case decided v h hv hd =>
    rw [← hv.phase] at hne
    cases hd <;> exact absurd rfl hne
  all_goals exact absurd rfl hne

/-! ### The Ready exit of INIT -/

/-- Settles O37: the exit's two actions, and the places where phase and Card State change. -/
theorem initSucceeds : Obligations.InitSucceeds := by
  unfold Obligations.InitSucceeds
  refine ⟨fun s hq => ?exit, fun s t hs hne hr => ?ready, fun s t hs hu hk => ?capacity,
    fun s t hinv hr hs hne => ?fixed⟩
  case exit =>
    have commit : step s = .next (goto .iFast (busDeselect (commitSession s))) :=
      step_of_control (c := .commit) (by rw [select, hq])
    have fast := leads_one (step_of_control (s := goto .iFast (busDeselect (commitSession s))) (c := .clkFast) rfl)
    have events : s.trace ++ [.desel] ++ [.clk s.params.clkDivFast] = s.trace ++ [.desel, .clk s.params.clkDivFast] :=
      List.append_assoc ..
    rw [← events]
    exact leads_succ commit fast
  case ready =>
    obtain ⟨-, -, hp⟩ | ⟨hq, -⟩ | ⟨-, -, hp⟩ := phaseChangesInThreePlaces s t hs (by rw [hr]; exact Ne.symm hne)
    · exact absurd (hp.symm.trans hr) nofun
    · exact hq
    · exact absurd (hp.symm.trans hr) nofun
  case capacity =>
    have hne : t.cs ≠ s.cs := fun he => hk (he ▸ hu)
    obtain ⟨-, -, hc⟩ | ⟨-, hc | hc⟩ | ⟨hq, -⟩ := cardStateIsWrittenInThreePlaces s t hs hne
    · exact absurd (by rw [hc]) hk
    · exact absurd (by rw [hc]; exact hu) hk
    · exact absurd (by rw [hc]; exact hu) hk
    · exact hq
  case fixed =>
    have hp := hinv.point
    obtain ⟨hq, hq', -⟩ | ⟨hq, -⟩ | ⟨hq, -⟩ := cardStateIsWrittenInThreePlaces s t hs hne
    · exact ⟨hq, hq'⟩
    · rw [pointOk, hq] at hp
      exact absurd (hp.2.symm.trans hr) nofun
    · rw [pointOk, hq] at hp
      exact absurd (hp.1.1.2.symm.trans hr) nofun

/-! ### The trace, the inputs and the buffer -/

/-- Settles O52: each kind of step appends its own events, and only those at IDLE take a move of the host. -/
theorem traceGrowsAndInputsWait : Obligations.TraceGrowsAndInputsWait := by
  unfold Obligations.TraceGrowsAndInputsWait
  intro s t hs
  cases step_cases hs
  case idle moves h | hostWrite a b moves h hb hm | initAccepted moves h hb | readAccepted i moves h hb hr |
      writeAccepted i moves h hb hr | rejected moves h hb =>
    exact ⟨⟨[], (List.append_nil _).symm⟩, rfl, fun hq => absurd h hq⟩
  case polled h hb hv =>
    obtain ⟨bytes, -, htr⟩ := hv.trace
    exact ⟨⟨_, htr⟩, hv.params, fun _ => hv.hostQ⟩
  case decided v h hv hd =>
    obtain ⟨bytes, -, htr⟩ := hv.trace
    rw [← hv.params, ← hv.hostQ]
    refine ⟨⟨receives bytes, ?_⟩, ?_, fun _ => ?_⟩
    · rw [← htr]
      cases hd <;> rfl
    · cases hd <;> rfl
    · cases hd <;> rfl
  case dataRead payload c0 c1 h hl => exact ⟨⟨_, List.append_assoc ..⟩, rfl, fun _ => rfl⟩
  all_goals exact ⟨⟨_, rfl⟩, rfl, fun _ => rfl⟩

/-- Settles O53: of the steps that are neither of the two, each leaves the buffer as it was. -/
theorem bufferIsWrittenInTwoPlaces : Obligations.BufferIsWrittenInTwoPlaces := by
  unfold Obligations.BufferIsWrittenInTwoPlaces
  intro s t hs hne
  cases step_cases hs
  case hostWrite a b moves h hb hm => exact .inr ⟨h, hb, a, b, moves, hm, rfl⟩
  case dataRead payload c0 c1 h hl => exact .inl h
  case polled h hb hv => exact absurd hv.buf hne
  case decided v h hv hd =>
    rw [← hv.buf] at hne
    cases hd <;> exact absurd rfl hne
  all_goals exact absurd rfl hne

end Sys2Proof.Machine
end

section
/-!
PROOFS. Every operation ends (spec R40 g, R150, R152, R182, R185, R212): a measure that falls in every step outside
IDLE. It is the stage of the operation, then the attempts left in the stage's loop, then the place in the loop's body,
then the polls left at the point.
-/

namespace Sys2Proof.Machine

/-- The stages of an operation in the order they are passed, the last being 0. The points of one retry loop share a
stage. -/
def Seq.stage : Seq → Nat
  | .idle => 0
  | .iFast => 1
  | .fail _ => 1
  | .rDesel | .wDesel | .iDone => 2
  | .rData | .wStResp | .i6Resp => 3
  | .rToken | .wStSend | .i6Send => 4
  | .rResp | .wBusy | .i5Resp => 5
  | .rSend | .wDresp | .i5Send => 6
  | .rSel | .wData | .i4aSend | .i4aResp | .i4bSend | .i4bResp => 7
  | .wToken | .i3Resp => 8
  | .wResp | .i3Send => 9
  | .wSend | .i2Resp => 10
  | .wSel | .i2Send => 11
  | .i1Send | .i1Resp => 12
  | .iSel => 13
  | .iClk => 14

/-- How much of the body of a retry loop is still to be passed. -/
def Seq.place : Seq → Nat
  | .i4aSend => 3
  | .i4aResp => 2
  | .i1Send | .i4bSend => 1
  | _ => 0

/-- The attempts left in the loop of the stage: of step 1 (spec R182) and of step 4 (spec R185). -/
def attemptsLeft (s : State) : Nat :=
  match s.seq with
  | .i1Send | .i1Resp => Config.resetRetries - s.retryCnt
  | .i4aSend | .i4aResp | .i4bSend | .i4bResp => s.params.acmd41Budget - s.acmdCnt
  | _ => 0

/-- The polls left at the point: of the reader, of the token wait, of the busy-wait (spec R150, R212, R218). -/
def pollsLeft (s : State) : Nat :=
  match s.seq with
  | .rToken => s.params.tokenBudget - s.tokCnt
  | .wBusy => s.params.busyBudget - s.busyCnt
  | _ => Config.respBudget - s.pollCnt

/-- What is left of the operation, read lexicographically. -/
def remaining (s : State) : Nat × Nat × Nat × Nat := (s.seq.stage, attemptsLeft s, s.seq.place, pollsLeft s)

/-- The order in which what is left falls. -/
def Less (t s : State) : Prop :=
  Prod.Lex (· < ·) (Prod.Lex (· < ·) (Prod.Lex (· < ·) (· < ·))) (remaining t) (remaining s)

theorem less_wellFounded : WellFounded Less :=
  InvImage.wf remaining (WellFounded.prod_lex Nat.lt_wfRel.wf
    (WellFounded.prod_lex Nat.lt_wfRel.wf (WellFounded.prod_lex Nat.lt_wfRel.wf Nat.lt_wfRel.wf)))

section less
variable {s t v : State}

theorem less_of_stage {q : Seq} (hq : s.seq = q) (h : Nat.blt t.seq.stage q.stage = true) : Less t s :=
  .left _ _ (hq ▸ Nat.le_of_ble_eq_true h)

theorem less_of_attempts (hs : t.seq.stage = s.seq.stage) (h : attemptsLeft t < attemptsLeft s) : Less t s := by
  rw [Less, remaining, hs]
  exact .right _ (.left _ _ h)

theorem less_of_place {q : Seq} (hq : s.seq = q) (hs : t.seq.stage = q.stage)
    (ha : attemptsLeft t = attemptsLeft s) (h : Nat.blt t.seq.place q.place = true) : Less t s := by
  subst hq
  rw [Less, remaining, hs, ha]
  exact .right _ (.right _ (.left _ _ (Nat.le_of_ble_eq_true h)))

theorem less_of_polls (hq : t.seq = s.seq) (ha : attemptsLeft t = attemptsLeft s) (h : pollsLeft t < pollsLeft s) :
    Less t s := by
  rw [Less, remaining, hq, ha]
  exact .right _ (.right _ (.right _ h))

/-- Every stage at which a response is read comes before the failure point. -/
theorem stage_of_readerShape {q : Seq} (h : q.readerShape ≠ none) : Nat.blt 1 q.stage = true := by
  cases q <;> first | rfl | exact absurd rfl h

/-- A decision passes to a later stage, or to the loop's next attempt, or further in the loop's body. -/
theorem Decision.less (hd : Decision v t) (hv : Received s v) : Less t s := by
  have hq := hv.seq
  cases hd
  case failed r retry acmd h => exact less_of_stage hq.symm (stage_of_readerShape h)
  case resetAgain h hb =>
    rw [hq] at h
    refine less_of_attempts (by rw [h]; rfl) ?_
    simp only [attemptsLeft, h, hv.retryCnt] at hb ⊢
    omega
  case stillIdle h hb =>
    rw [hq] at h
    refine less_of_attempts (by rw [h]; rfl) ?_
    simp only [attemptsLeft, h, hv.acmdCnt, hv.params] at hb ⊢
    omega
  case announced h =>
    rw [hq] at h
    exact less_of_place h rfl (by simp only [attemptsLeft, h, hv.acmdCnt, hv.params]) rfl
  case askCapacity h _ | assumeStandard h _ | versionChecked _ _ h | versionUnchecked _ _ h =>
    exact less_of_stage (hq ▸ h) rfl
  all_goals
    rename_i h
    exact less_of_stage (hq ▸ h) rfl

/-- Sending a command passes to a later stage, or further in the loop's body. -/
theorem less_command {i : Instr} (f : Frame) (h : commandAt s = some i) : Less (withFrame f s) s := by
  have hpost : (withFrame f s).seq = s.seq.afterSend := rfl
  cases hq : s.seq <;> rw [hq] at hpost <;> rw [commandAt, hq] at h
  case i1Send | i4aSend | i4bSend =>
    exact less_of_place hq (by rw [hpost]; rfl) (by rw [attemptsLeft, attemptsLeft, hpost, hq]; rfl)
      (by rw [hpost]; rfl)
  case i2Send | i3Send | i5Send | i6Send | rSend | wSend | wStSend => exact less_of_stage hq (by rw [hpost]; rfl)
  all_goals cases h

theorem pollsLeft_of_readerShape (h : s.seq.readerShape ≠ none) : pollsLeft s = Config.respBudget - s.pollCnt := by
  cases hq : s.seq <;> rw [hq] at h <;> first | exact absurd rfl h | rw [pollsLeft, hq]

/-- Every step outside IDLE leaves less of the operation. -/
theorem StepCase.less (h : StepCase s t) (hq : s.seq ≠ .idle) : Less t s := by
  cases h
  case idle h | hostWrite h _ _ | initAccepted h _ | readAccepted h _ _ | writeAccepted h _ _ | rejected h _ =>
    exact absurd h hq
  case command i f h => exact less_command f h
  case polled h hb hv =>
    refine less_of_polls hv.seq ?_ ?_
    · rw [attemptsLeft, attemptsLeft, hv.seq, hv.retryCnt, hv.acmdCnt, hv.params]
    · rw [pollsLeft_of_readerShape h, pollsLeft_of_readerShape (hv.seq ▸ h), hv.pollCnt]
      omega
  case decided v h hv hd => exact hd.less hv
  case openBlock h _ =>
    obtain ⟨h, rfl⟩ | ⟨h, rfl⟩ := h <;> exact less_of_stage h rfl
  case tokenSkipped b h hb =>
    refine less_of_polls rfl (by simp only [attemptsLeft, afterDraws, h]) ?_
    simp only [pollsLeft, afterDraws, h]
    omega
  case busyPolled b h hb =>
    refine less_of_polls rfl (by simp only [attemptsLeft, afterDraws, h]) ?_
    simp only [pollsLeft, afterDraws, h]
    omega
  case closed h =>
    obtain h | h := h <;> exact less_of_stage h rfl
  case dataRead h _ | initFailed h _ | blockFailed h _ => exact less_of_stage h rfl
  all_goals
    rename_i h
    exact less_of_stage h rfl

/-- Settles O55: while the engine is not at IDLE a consistent state has a next one, which is consistent and of which
less is left; so IDLE is reached, where the invariant has `busy` = 0. -/
theorem everyOperationEnds : Obligations.EveryOperationEnds := by
  unfold Obligations.EveryOperationEnds
  intro s
  induction s using less_wellFounded.induction with
  | _ s ih =>
    intro hs
    by_cases hq : s.seq = .idle
    · exact ⟨s, reaches_refl s, hq, hs.idle.mpr hq⟩
    · obtain ⟨u, hu⟩ := consistentStatesNeverStop s hs
      obtain ⟨t, ht, hend⟩ := ih u ((step_cases hu).less hq) (stepKeepsConsistency s u hs hu)
      exact ⟨t, reaches_step hu ht, hend⟩

end less

end Sys2Proof.Machine
end

section
/-!
PROOFS. The buffer does not steer the engine (spec R76): every operation of the model commutes with a change of the
buffer, but the two that move the block.
-/

namespace Sys2Proof.Machine

/-- `s` with another buffer. -/
def withBuf (m : Memory) (s : State) : State := { s with buf := m }

section withBuf
variable (m : Memory) (s : State)

/-! ### What the sequencer selects -/

theorem draw_withBuf : draw (withBuf m s) = ((draw s).1, withBuf m (draw s).2) := by
  cases h : s.env <;> simp [draw, withBuf, h]

theorem drawN_withBuf (n : Nat) : drawN n (withBuf m s) = ((drawN n s).1, withBuf m (drawN n s).2) := by
  rw [drawN_eq, drawN_eq]
  rfl

/-- The selection on the state with another buffer. -/
def Selected.withBuf (m : Memory) : Selected → Selected
  | .instr i s => .instr i (Machine.withBuf m s)
  | .control c s => .control c (Machine.withBuf m s)
  | .undecoded => .undecoded

theorem selectDecoded_withBuf (r : Except DecodeError (Instr × List Byte)) :
    selectDecoded r (withBuf m s) = (selectDecoded r s).withBuf m := by
  cases r <;> rfl

theorem selectResponse_withBuf (sh : Shape) :
    selectResponse sh (withBuf m s) = (selectResponse sh s).withBuf m := by
  simp only [selectResponse, draw_withBuf, drawN_withBuf, selectDecoded_withBuf]
  split <;> rfl

theorem selectToken_withBuf : selectToken (withBuf m s) = (selectToken s).withBuf m := by
  simp only [selectToken, draw_withBuf]
  split <;> rfl

theorem selectReadData_withBuf : selectReadData (withBuf m s) = (selectReadData s).withBuf m := by
  simp only [selectReadData, drawN_withBuf, selectDecoded_withBuf]

theorem selectDataResp_withBuf : selectDataResp (withBuf m s) = (selectDataResp s).withBuf m := by
  simp only [selectDataResp, draw_withBuf, selectDecoded_withBuf]

theorem selectIdle_withBuf : selectIdle (withBuf m s) = (selectIdle s).withBuf m := by
  have hm : (withBuf m s).hostQ = s.hostQ := rfl
  unfold selectIdle
  rw [hm]
  split <;> rfl

/-- What is done next does not depend on the buffer, but at W_DATA, where its bytes are the instruction's operand. -/
theorem select_withBuf {s : State} (h : s.seq ≠ .wData) : select (withBuf m s) = (select s).withBuf m := by
  have hseq : (withBuf m s).seq = s.seq := rfl
  cases hq : s.seq <;> rw [select, select, hseq, hq]
  case wData => exact absurd hq h
  case idle => exact selectIdle_withBuf m s
  case rToken => exact selectToken_withBuf m s
  case rData => exact selectReadData_withBuf m s
  case wDresp => exact selectDataResp_withBuf m s
  case wBusy => simp only [draw_withBuf, Selected.withBuf]
  case i1Resp | i2Resp | i3Resp | i4aResp | i4bResp | i5Resp | i6Resp | rResp | wResp | wStResp =>
    exact selectResponse_withBuf m s _
  all_goals rfl

/-! ### Decisions -/

theorem enterBlockLenSet_withBuf : enterBlockLenSet (withBuf m s) = withBuf m (enterBlockLenSet s) := by
  cases hc : s.capPending <;> simp [enterBlockLenSet, withBuf, goto, hc]

theorem enterCapacityDetect_withBuf : enterCapacityDetect (withBuf m s) = withBuf m (enterCapacityDetect s) := by
  cases hc : s.cs.versionClass <;> simp [enterCapacityDetect, enterBlockLenSet, withBuf, goto, hc]

theorem enterOcrCheck_withBuf : enterOcrCheck (withBuf m s) = withBuf m (enterOcrCheck s) := by
  rw [enterOcrCheck, enterOcrCheck, apply_ite (withBuf m)]
  rfl

theorem retryReset_withBuf : retryReset (withBuf m s) = withBuf m (retryReset s) := by
  rw [retryReset, retryReset, apply_ite (withBuf m)]
  rfl

theorem onToken_withBuf : onToken (withBuf m s) = withBuf m (onToken s) := by
  have hseq : (withBuf m s).seq = s.seq := rfl
  cases hq : s.seq <;> rw [onToken, onToken, hseq, hq]
  case i1Resp =>
    dsimp only
    rw [decideReset, decideReset, retryReset_withBuf, apply_ite (withBuf m)]
    rfl
  case i2Resp =>
    dsimp only
    rw [decideVoltageCheck, decideVoltageCheck, apply_ite (withBuf m), apply_ite (withBuf m), ← enterOcrCheck_withBuf,
      ← enterOcrCheck_withBuf]
    rfl
  case i4bResp =>
    dsimp only
    rw [decideAcmd41, decideAcmd41, apply_ite (withBuf m), apply_ite (withBuf m), ← enterCapacityDetect_withBuf]
    rfl
  case i5Resp =>
    dsimp only
    rw [decideCapacity, decideCapacity, apply_ite (withBuf m), ← enterBlockLenSet_withBuf]
    rfl
  case i3Resp | wStResp =>
    simp only [decideOcrCheck, decideCardStatus, apply_ite (withBuf m)]
    rfl
  case i6Resp | rResp | wResp =>
    simp only [decideBlockLen, decideReadCommand, decideWriteCommand, apply_ite (withBuf m)]
    rfl
  all_goals rfl

theorem onTimeout_withBuf : onTimeout (withBuf m s) = withBuf m (onTimeout s) := by
  have hseq : (withBuf m s).seq = s.seq := rfl
  cases hq : s.seq <;> rw [onTimeout, onTimeout, hseq, hq]
  case i1Resp => exact retryReset_withBuf m s
  all_goals rfl

/-! ### Instructions and actions -/

/-- A response on the state with another buffer. -/
theorem exec_response_withBuf {i : Instr} {u : State} (h : exec i s = .next (onToken u))
    (h' : exec i (withBuf m s) = .next (onToken (withBuf m u))) {t : State} (ht : exec i s = .next t) :
    exec i (withBuf m s) = .next (withBuf m t) := by
  cases h.symm.trans ht
  rw [h', onToken_withBuf]

theorem exec_filler_withBuf (x : BitVec 7) {t : State} (h : exec (.filler x) s = .next t) :
    exec (.filler x) (withBuf m s) = .next (withBuf m t) := by
  by_cases hp : s.pollCnt + 1 < Config.respBudget
  · cases (exec_filler_again s x hp).symm.trans h
    exact exec_filler_again (withBuf m s) x hp
  · cases (exec_filler_last s x hp).symm.trans h
    rw [exec_filler_last (withBuf m s) x hp, ← onTimeout_withBuf]
    rfl

theorem acceptBlock_withBuf (code : BitVec 2) (first : Seq) (i : Word32) :
    acceptBlock code first i (withBuf m s) = withBuf m (acceptBlock code first i s) := by
  rw [acceptBlock, acceptBlock, apply_ite (withBuf m), apply_ite (withBuf m)]
  rfl

theorem send_withBuf (opcode : BitVec 6) (argument : Word32) (crc7 : BitVec 7) :
    send opcode argument crc7 (withBuf m s) = withBuf m (send opcode argument crc7 s) := by
  rw [send_eq_withFrame, send_eq_withFrame]
  rfl

/-- An instruction run with another buffer changes the same registers in the same way. -/
theorem exec_withBuf {i : Instr} {s t : State} (h : exec i s = .next t) :
    ∃ m', exec i (withBuf m s) = .next (withBuf m' t) := by
  cases i
  case readData payload c0 c1 =>
    cases (exec_readData s payload c0 c1).symm.trans h
    exact ⟨_, exec_readData (withBuf m s) payload c0 c1⟩
  all_goals refine ⟨m, ?_⟩
  case filler x => exact exec_filler_withBuf m s x h
  case r1 st => exact exec_response_withBuf m s (exec_r1 s st) rfl h
  case r1b st zeros last =>
    by_cases hz : zeros < s.params.busyBudget
    · exact exec_response_withBuf m s (exec_r1b_done s st last zeros hz)
        (exec_r1b_done (withBuf m s) st last zeros hz) h
    · cases (exec_r1b_timeout s st last zeros hz).symm.trans h
      rw [exec_r1b_timeout (withBuf m s) st last zeros hz, ← onTimeout_withBuf]
      rfl
  case r2 st b =>
    cases hi : st.getLsbD 2 with
    | true => exact exec_response_withBuf m s (exec_r2_short s st b hi) (exec_r2_short (withBuf m s) st b hi) h
    | false => exact exec_response_withBuf m s (exec_r2_full s st b hi) (exec_r2_full (withBuf m s) st b hi) h
  case r3 st p =>
    cases hi : st.getLsbD 2 with
    | true => exact exec_response_withBuf m s (exec_r3_short s st p hi) (exec_r3_short (withBuf m s) st p hi) h
    | false => exact exec_response_withBuf m s (exec_r3_full s st p hi) (exec_r3_full (withBuf m s) st p hi) h
  case r7 st p =>
    cases hi : st.getLsbD 2 with
    | true => exact exec_response_withBuf m s (exec_r7_short s st p hi) (exec_r7_short (withBuf m s) st p hi) h
    | false => exact exec_response_withBuf m s (exec_r7_full s st p hi) (exec_r7_full (withBuf m s) st p hi) h
  case startToken =>
    have hseq : (withBuf m s).seq = s.seq := rfl
    rw [exec, execStartToken] at h ⊢
    rw [hseq]
    split at h <;> cases h
    · exact if_pos ‹_›
    · rw [if_neg ‹_›, xchgSend_eq, xchgSend_eq]
      rfl
  case writeData payload =>
    cases (exec_writeData s payload).symm.trans h
    exact exec_writeData (withBuf m s) payload
  case dataResp ignored code =>
    rw [exec, execDataResp] at h ⊢
    split at h <;> cases h
    · exact if_pos ‹_›
    · exact if_neg ‹_›
  case nop => cases h; rfl
  case init =>
    rw [exec, execInit] at h ⊢
    split at h <;> cases h
    · exact if_pos ‹_›
    · exact if_neg ‹_›
  case readBlock i =>
    cases h
    exact congrArg _ (acceptBlock_withBuf m s _ _ i)
  case writeBlock i =>
    cases h
    exact congrArg _ (acceptBlock_withBuf m s _ _ i)
  all_goals
    cases h
    exact congrArg _ (send_withBuf m s _ _ _)

theorem skipTokenByte_withBuf (b : Byte) : skipTokenByte b (withBuf m s) = withBuf m (skipTokenByte b s) := by
  rw [skipTokenByte, skipTokenByte, apply_ite (withBuf m)]
  rfl

theorem busyWaitByte_withBuf (b : Byte) : busyWaitByte b (withBuf m s) = withBuf m (busyWaitByte b s) := by
  rw [busyWaitByte, busyWaitByte, apply_ite (withBuf m), apply_ite (withBuf m)]
  rfl

theorem failExit_withBuf (r : Reason) : failExit r (withBuf m s) = withBuf m (failExit r s) := by
  by_cases ho : s.op = 1#2
  · rw [failExit_of_init ho, failExit_of_init (s := withBuf m s) ho]
    rfl
  · rw [failExit_of_not_init ho, failExit_of_not_init (s := withBuf m s) ho]
    cases r <;> rfl

/-- An action of the sequencer with another buffer changes the same registers in the same way. -/
theorem perform_withBuf {c : Control} {s t : State} (h : perform c s = .next t) :
    ∃ m', perform c (withBuf m s) = .next (withBuf m' t) := by
  cases c
  case hostWrite a b =>
    have hbusy : (withBuf m s).busy = s.busy := rfl
    rw [perform, hbusy]
    cases h
    by_cases hb : s.busy = true
    · rw [if_pos hb, if_pos hb]
      exact ⟨m, rfl⟩
    · rw [if_neg hb, if_neg hb]
      exact ⟨_, rfl⟩
  all_goals refine ⟨m, ?_⟩
  case openBlock q =>
    have hcs : (withBuf m s).cs = s.cs := rfl
    rw [perform] at h ⊢
    rw [hcs]
    split at h <;> cases h
    rfl
  case skipByte b => cases h; exact congrArg _ (skipTokenByte_withBuf m s b)
  case busy b => cases h; exact congrArg _ (busyWaitByte_withBuf m s b)
  case failed r => cases h; exact congrArg _ (failExit_withBuf m s r)
  all_goals
    cases h
    rfl

/-- Away from W_DATA a step with another buffer changes the same registers in the same way. -/
theorem step_withBuf {s t : State} (hq : s.seq ≠ .wData) (h : step s = .next t) :
    ∃ m', step (withBuf m s) = .next (withBuf m' t) := by
  have hsel := select_withBuf m hq
  unfold step at h ⊢
  rw [hsel]
  cases hs : select s with
  | instr i u => rw [hs] at h; exact exec_withBuf m h
  | control c u => rw [hs] at h; exact perform_withBuf m h
  | undecoded => exact absurd hs (select_ne_undecoded s)

/-- At W_DATA a step sends the buffer (spec R216). -/
theorem step_writeData {s : State} (hq : s.seq = .wData) :
    step s = .next { afterDraws (Config.blockSize + 2) s with
      trace := s.trace ++ exchanges (bufBytes s.buf ++ [0xFF#8, 0xFF#8]) (envBytes (Config.blockSize + 2) s)
      byteIdx := 2
      seq := .wDresp } := by
  rw [step_of_instr (i := .writeData (bufBytes s.buf)) (t := s) (by rw [select, hq]), exec_writeData, bufBytes_length]

/-- Settles O54: away from W_DATA nothing but the buffer differs; at W_DATA both blocks have 512 bytes. -/
theorem bufferDoesNotSteerTheEngine : Obligations.BufferDoesNotSteerTheEngine := by
  unfold Obligations.BufferDoesNotSteerTheEngine
  intro s t m h
  by_cases hq : s.seq = .wData
  · cases (step_writeData hq).symm.trans h
    refine ⟨_, step_writeData (s := { s with buf := m }) hq, rfl, fun hne => absurd hq hne, ?_⟩
    simp [exchanges]
  · obtain ⟨m', hm⟩ := step_withBuf m hq h
    exact ⟨_, hm, rfl, fun _ => rfl, rfl⟩

end withBuf

end Sys2Proof.Machine
end

section
/-!
PROOFS. The response reader (spec 41_response_reader.md, R150 to R161): fillers, the five shapes in every state, and
what they leave alone.
-/

namespace Sys2Proof.Machine

/-! ### Fillers -/

/-- Settles O9: `exec_filler_again`, its budget and its byte written out. -/
theorem fillerIsPolledAgain : Obligations.FillerIsPolledAgain := by
  unfold Obligations.FillerIsPolledAgain
  exact fun s x h => exec_filler_again s x h

/-- Settles O10: the last poll is `exec_filler_last`, and the decision on the Timeout is `onTimeout_reason` or, in
step 1, `onTimeout_reset`. -/
theorem lastFillerIsTheTimeout : Obligations.LastFillerIsTheTimeout := by
  unfold Obligations.LastFillerIsTheTimeout
  have last (s : State) (x : BitVec 7) (h : s.pollCnt + 1 = 10000) :
      exec (.filler x) s = .next (onTimeout { s with
        trace := s.trace ++ [.x 0xFF#8 (0b1#1 ++ x)], pollCnt := 10000, extValid := false }) := by
    have := exec_filler_last s x (by rw [h]; exact Nat.lt_irrefl _)
    rwa [h] at this
  refine ⟨fun s x r h hr => ?reason, fun s x h hq => ?attempt⟩
  case reason =>
    rw [last s x h, onTimeout_reason _ (by exact hr)]
    rfl
  case attempt =>
    rw [last s x h, onTimeout_reset _ (by exact hq), retryReset]
    by_cases hn : s.retryCnt + 1 < 255
    · rw [if_pos (by exact hn), if_pos hn]
      rfl
    · rw [if_neg (by exact hn), if_neg hn]
      rfl

/-- Settles O13: `leads_fillers_skipped` from `poll_cnt` 0. -/
theorem fillersBeforeTheStatusAreSkipped : Obligations.FillersBeforeTheStatusAreSkipped := by
  unfold Obligations.FillersBeforeTheStatusAreSkipped
  intro s fillers rest hr hpoll henv hb hlen
  have run := leads_fillers_skipped hr henv hb (by rw [hpoll, Nat.zero_add]; exact hlen)
  rwa [hpoll, Nat.zero_add] at run

/-! ### The token registers -/

/-- Settles O11: each shape's meaning ends in the decision on a token, which writes none of these registers. -/
theorem tokenRegistersHoldTheResponse : Obligations.TokenRegistersHoldTheResponse := by
  unfold Obligations.TokenRegistersHoldTheResponse
  refine ⟨fun s st => ⟨_, exec_r1 s st, ?_⟩, fun s st b h => ⟨_, exec_r2_full s st b h, ?_⟩,
    fun s st b h => ⟨_, exec_r2_short s st b h, ?_⟩, fun s st p h => ⟨_, exec_r3_full s st p h, ?_⟩,
    fun s st p h => ⟨_, exec_r3_short s st p h, ?_⟩, fun s st p h => ⟨_, exec_r7_full s st p h, ?_⟩,
    fun s st p h => ⟨_, exec_r7_short s st p h, ?_⟩⟩ <;>
  · simp only [onToken_trace, onToken_pollCnt, onToken_status, onToken_status2, onToken_payload, onToken_tokShape,
      onToken_extValid]
    and_intros <;> rfl

/-! ### R1b -/

/-- Where no response is read, no decision is made on a Timeout. -/
theorem onTimeout_elsewhere {s : State} (h : s.seq.readerShape = none) : onTimeout s = s := by
  cases hq : s.seq <;> rw [hq] at h <;> rw [onTimeout, hq]
  case i1Resp | i2Resp | i3Resp | i4aResp | i4bResp | i5Resp | i6Resp | rResp | wResp | wStResp => cases h

/-- Settles O12: the two equations of R1b, and that no decision is made where no response is read. -/
theorem busyResponseIsBounded : Obligations.BusyResponseIsBounded := by
  unfold Obligations.BusyResponseIsBounded
  refine ⟨fun s st zeros last _ hz => ⟨_, exec_r1b_done s st last zeros hz, ?done⟩,
    fun s st zeros last hz => ⟨_, exec_r1b_timeout s st last zeros hz.not_gt, ?timeout⟩,
    fun s t st zeros last hr ht => ?elsewhere⟩
  case done =>
    exact ⟨onToken_trace _, onToken_pollCnt _, onToken_busyCnt _, onToken_status _, onToken_tokShape _,
      onToken_extValid _⟩
  case timeout =>
    refine ⟨onTimeout_trace _, onTimeout_pollCnt _, onTimeout_busyCnt _, onTimeout_extValid _, fun r hreason => ?_⟩
    rw [onTimeout_reason _ (by exact hreason)]
    rfl
  case elsewhere =>
    by_cases hz : zeros < s.params.busyBudget
    · rw [exec_r1b_done s st last zeros hz, onToken_elsewhere _ (by exact hr)] at ht
      cases ht
      rfl
    · rw [exec_r1b_timeout s st last zeros hz, onTimeout_elsewhere (by exact hr)] at ht
      cases ht
      rfl

/-! ### What a response leaves alone -/

/-- `t` is `s` after receiving exchanges and the writes a response and its decision can make (spec R32, R34, R35). -/
def ResponseFrame (s t : State) : Prop :=
  (∃ bytes, t.trace = s.trace ++ receives bytes) ∧
  t = { s with
    trace := t.trace
    tokShape := t.tokShape, status := t.status, status2 := t.status2, payload := t.payload, extValid := t.extValid
    pollCnt := t.pollCnt, retryCnt := t.retryCnt, acmdCnt := t.acmdCnt, busyCnt := t.busyCnt, tokCnt := t.tokCnt
    byteIdx := t.byteIdx
    cs := { s.cs with versionClass := t.cs.versionClass }
    capPending := t.capPending
    seq := t.seq }

section frame
variable {s v : State}

theorem ResponseFrame.onToken (h : ResponseFrame s v) : ResponseFrame s (onToken v) := by
  obtain ⟨⟨bytes, htr⟩, hv⟩ := h
  refine ⟨⟨bytes, (onToken_trace v).trans htr⟩, ?_⟩
  rw [onToken_frame v, hv]

theorem ResponseFrame.onTimeout (h : ResponseFrame s v) : ResponseFrame s (onTimeout v) := by
  obtain ⟨⟨bytes, htr⟩, hv⟩ := h
  refine ⟨⟨bytes, (onTimeout_trace v).trans htr⟩, ?_⟩
  rw [onTimeout_frame v, hv]

theorem responseFrame_withStatus (sh : Shape) (st : BitVec 7) (s : State) : ResponseFrame s (withStatus sh st s) :=
  ⟨⟨[statusByte st], rfl⟩, rfl⟩

/-- Every response keeps to the frame. -/
theorem responseFrame_of_exec {i : Instr} {t : State} (hr : ∃ sh, channelOf i = .response sh)
    (h : exec i s = .next t) : ResponseFrame s t := by
  cases i <;> (obtain ⟨sh, hsh⟩ := hr; cases hsh)
  case filler x =>
    by_cases hp : s.pollCnt + 1 < Config.respBudget
    · cases (exec_filler_again s x hp).symm.trans h
      exact ⟨⟨[_], rfl⟩, rfl⟩
    · cases (exec_filler_last s x hp).symm.trans h
      exact ResponseFrame.onTimeout ⟨⟨[_], rfl⟩, rfl⟩
  case r1 st =>
    cases (exec_r1 s st).symm.trans h
    exact (responseFrame_withStatus .r1 st s).onToken
  case r1b st zeros last =>
    by_cases hz : zeros < s.params.busyBudget
    · cases (exec_r1b_done s st last zeros hz).symm.trans h
      exact ResponseFrame.onToken ⟨⟨_, rfl⟩, rfl⟩
    · cases (exec_r1b_timeout s st last zeros hz).symm.trans h
      exact ResponseFrame.onTimeout ⟨⟨_, rfl⟩, rfl⟩
  case r2 st b =>
    cases hi : st.getLsbD 2 with
    | true => cases (exec_r2_short s st b hi).symm.trans h; exact (responseFrame_withStatus .r2 st s).onToken
    | false => cases (exec_r2_full s st b hi).symm.trans h; exact ResponseFrame.onToken ⟨⟨_, rfl⟩, rfl⟩
  case r3 st p =>
    cases hi : st.getLsbD 2 with
    | true => cases (exec_r3_short s st p hi).symm.trans h; exact (responseFrame_withStatus .r3 st s).onToken
    | false => cases (exec_r3_full s st p hi).symm.trans h; exact ResponseFrame.onToken ⟨⟨_, rfl⟩, rfl⟩
  case r7 st p =>
    cases hi : st.getLsbD 2 with
    | true => cases (exec_r7_short s st p hi).symm.trans h; exact (responseFrame_withStatus .r7 st s).onToken
    | false => cases (exec_r7_full s st p hi).symm.trans h; exact ResponseFrame.onToken ⟨⟨_, rfl⟩, rfl⟩

end frame

/-- Settles O15: the six constructors are those of the response channels, and each keeps to the frame. -/
theorem responsesLeaveTheRestAlone : Obligations.ResponsesLeaveTheRestAlone := by
  unfold Obligations.ResponsesLeaveTheRestAlone
  intro i s t hi h
  refine responseFrame_of_exec ?_ h
  obtain ⟨x, rfl⟩ | ⟨st, rfl⟩ | ⟨st, zeros, last, rfl⟩ | ⟨st, b, rfl⟩ | ⟨st, p, rfl⟩ | ⟨st, p, rfl⟩ := hi <;>
    exact ⟨_, rfl⟩

end Sys2Proof.Machine
end

section
/-!
PROOFS. The steps of INIT (spec 43_initialization.md, R181 to R187): what each makes of its response.
-/

namespace Sys2Proof.Machine

/-! ### The bits tested -/

/-- R33 b: the idle-state bit of a status byte. -/
@[simp] theorem idleBit_statusByte (st : BitVec 7) : idleBit (statusByte st) = st.getLsbD 0 := by
  revert st; decide

/-- R33 c: the illegal-command bit of a status byte. -/
@[simp] theorem illegalBit_statusByte (st : BitVec 7) : illegalBit (statusByte st) = st.getLsbD 2 := by
  revert st; decide

/-- R33 d: a status byte is zero when its bits 6:0 are. -/
@[simp] theorem isZero_statusByte (st : BitVec 7) : isZero (statusByte st) = decide (st = 0#7) := by
  revert st; decide

theorem isZero_eq (b : Byte) : isZero b = decide (b = 0#8) := rfl

/-! ### The fields of a payload (spec R97, R98) -/

section payload
variable (p : Payload)

theorem bytes32_payload32 : bytes32 (payload32 p) = p.bytes := bytes32_word32 p.p0 p.p1 p.p2 p.p3

theorem payload32_eq_zero : payload32 p = 0#32 ↔ p = ⟨0#8, 0#8, 0#8, 0#8⟩ := by
  constructor
  · intro h
    have hb := bytes32_payload32 p
    have zero : bytes32 0#32 = [0#8, 0#8, 0#8, 0#8] := by decide
    rw [h, zero] at hb
    obtain ⟨a, b, c, d⟩ := p
    cases hb
    rfl
  · rintro rfl
    rfl

/-- R97: the check pattern is the last byte. -/
theorem r7Pattern_eq : r7Pattern p = p.p3 := BitVec.extractLsb'_append_eq_right

/-- R97: the voltage is the low nibble of the byte before it. -/
theorem r7Voltage_eq : r7Voltage p = p.p2.extractLsb 3 0 := by
  have last : (payload32 p).extractLsb' 8 4 = (p.p0 ++ p.p1 ++ p.p2).extractLsb' 0 4 :=
    BitVec.extractLsb'_append_eq_of_le (by decide)
  exact last.trans (BitVec.extractLsb'_append_eq_of_add_le (by decide))

/-- R98: the capacity bit is bit 6 of the first byte. -/
theorem ocrCcs_eq : ocrCcs p = p.p0.getLsbD 6 := by
  show (p.p0 ++ p.p1 ++ p.p2 ++ p.p3).getLsbD 30 = p.p0.getLsbD 6
  rw [BitVec.getLsbD_append, if_neg (by decide), BitVec.getLsbD_append, if_neg (by decide), BitVec.getLsbD_append,
    if_neg (by decide)]

theorem word32_and (a b c d a' b' c' d' : Byte) :
    word32 a b c d &&& word32 a' b' c' d' = word32 (a &&& a') (b &&& b') (c &&& c') (d &&& d') := by
  have join : (a ++ b ++ c ++ d) &&& (a' ++ b' ++ c' ++ d') =
      (a &&& a') ++ (b &&& b') ++ (c &&& c') ++ (d &&& d') := by
    rw [BitVec.and_append, BitVec.and_append, BitVec.and_append]
  exact join

/-- R98: the voltage window is the second byte and bit 7 of the third. -/
theorem voltageInWindow_iff : voltageInWindow p = false ↔ p.p1 = 0x00#8 ∧ p.p2.getLsbD 7 = false := by
  have window : ocrWindow p = payload32 ⟨0#8, p.p1, p.p2 &&& 0x80#8, 0#8⟩ := by
    have mask : Config.ocrVoltageMask = word32 0#8 0xFF#8 0x80#8 0#8 := by decide
    have ones : ∀ b : Byte, b &&& 0xFF#8 = b := by decide
    rw [ocrWindow, payload32, mask, word32_and, ones, BitVec.and_zero, BitVec.and_zero]
    rfl
  have bit : ∀ b : Byte, b &&& 0x80#8 = 0#8 ↔ b.getLsbD 7 = false := by decide
  rw [voltageInWindow, window, bne_eq_false_iff_eq, payload32_eq_zero]
  simp [bit]

end payload

/-! ### One equation per branch of a decision -/

section branches
variable {v : State}

theorem onToken_resetDone (hq : v.seq = .i1Resp) (h : idleBit v.status = true) :
    onToken v = { v with retryCnt := v.retryCnt + 1, seq := .i2Send } := by
  rw [onToken, hq]
  exact if_pos h

theorem onToken_resetFailed (hq : v.seq = .i1Resp) (h : idleBit v.status = false) : onToken v = retryReset v := by
  rw [onToken, hq]
  exact if_neg (by rw [h]; nofun)

theorem onToken_legacy (hq : v.seq = .i2Resp) (h : illegalBit v.status = true) :
    onToken v = afterVersion (setVersion .legacy v) := by
  rw [onToken, hq]
  exact if_pos h

theorem onToken_v2 (hq : v.seq = .i2Resp) (hl : illegalBit v.status = false) (h : echoMatches v.payload = true) :
    onToken v = afterVersion (setVersion .v2 v) := by
  rw [onToken, hq]
  exact (if_neg (by rw [hl]; nofun)).trans (if_pos h)

theorem onToken_mismatch (hq : v.seq = .i2Resp) (hl : illegalBit v.status = false) (h : echoMatches v.payload = false) :
    onToken v = raise .patternMismatch v := by
  rw [onToken, hq]
  exact (if_neg (by rw [hl]; nofun)).trans (if_neg (by rw [h]; nofun))

/-- Steps 3 and 5 decide the illegal-command bit first (spec R245 b). -/
theorem onToken_illegal (hq : v.seq = .i3Resp ∨ v.seq = .i5Resp) (h : illegalBit v.status = true) :
    onToken v = raise .illegalCommand v := by
  obtain hq | hq := hq <;> rw [onToken, hq] <;> exact if_pos h

theorem onToken_window (hq : v.seq = .i3Resp) (hl : illegalBit v.status = false)
    (h : voltageInWindow v.payload = true) : onToken v = enterIdleWait v := by
  rw [onToken, hq]
  exact (if_neg (by rw [hl]; nofun)).trans (if_pos h)

theorem onToken_noWindow (hq : v.seq = .i3Resp) (hl : illegalBit v.status = false)
    (h : voltageInWindow v.payload = false) : onToken v = raise .voltageMismatch v := by
  rw [onToken, hq]
  exact (if_neg (by rw [hl]; nofun)).trans (if_neg (by rw [h]; nofun))

theorem onToken_announced (hq : v.seq = .i4aResp) : onToken v = { v with seq := .i4bSend } := by
  rw [onToken, hq]
  rfl

theorem onToken_stillIdle (hq : v.seq = .i4bResp) (h : idleBit v.status = true) :
    onToken v = { v with
      acmdCnt := v.acmdCnt + 1
      seq := if v.acmdCnt + 1 < v.params.acmd41Budget then .i4aSend else .fail .timeout } := by
  rw [onToken, hq]
  refine (if_pos h).trans ?_
  split <;> rfl

theorem onToken_askCapacity (hq : v.seq = .i4bResp) (h : idleBit v.status = false) (hv : v.cs.versionClass = .v2) :
    onToken v = { v with acmdCnt := v.acmdCnt + 1, seq := .i5Send } := by
  rw [onToken, hq]
  refine (if_neg (by rw [h]; nofun)).trans ?_
  rw [enterCapacityDetect, hv]
  rfl

theorem onToken_assumeStandard (hq : v.seq = .i4bResp) (h : idleBit v.status = false)
    (hv : v.cs.versionClass ≠ .v2) :
    onToken v = { v with acmdCnt := v.acmdCnt + 1, capPending := .standard, seq := .i6Send } := by
  rw [onToken, hq]
  refine (if_neg (by rw [h]; nofun)).trans ?_
  rw [enterCapacityDetect]
  split
  · exact absurd ‹_› hv
  · rfl
  · rfl

theorem onToken_high (hq : v.seq = .i5Resp) (hl : illegalBit v.status = false) (h : ocrCcs v.payload = true) :
    onToken v = { v with capPending := .high, seq := .iDone } := by
  rw [onToken, hq]
  refine (if_neg (by rw [hl]; nofun)).trans ?_
  rw [h]
  rfl

theorem onToken_standard (hq : v.seq = .i5Resp) (hl : illegalBit v.status = false) (h : ocrCcs v.payload = false) :
    onToken v = { v with capPending := .standard, seq := .i6Send } := by
  rw [onToken, hq]
  refine (if_neg (by rw [hl]; nofun)).trans ?_
  rw [h]
  rfl

/-- Step 6 and the commands of the block operations go on only after a zero status byte (spec R187, R211, R215). -/
theorem onToken_nonzero (hq : v.seq = .i6Resp ∨ v.seq = .rResp ∨ v.seq = .wResp) (h : isZero v.status = false) :
    onToken v = raise .busError v := by
  obtain hq | hq | hq := hq <;> rw [onToken, hq] <;> exact if_neg (by rw [h]; nofun)

theorem onToken_blockLenSet (hq : v.seq = .i6Resp) (h : isZero v.status = true) :
    onToken v = { v with seq := .iDone } := by
  rw [onToken, hq]
  exact if_pos h

theorem onToken_readAccepted (hq : v.seq = .rResp) (h : isZero v.status = true) :
    onToken v = { v with tokCnt := 0, seq := .rToken } := by
  rw [onToken, hq]
  exact if_pos h

theorem onToken_writeAccepted (hq : v.seq = .wResp) (h : isZero v.status = true) :
    onToken v = { v with seq := .wToken } := by
  rw [onToken, hq]
  exact if_pos h

theorem onToken_written (hq : v.seq = .wStResp) (h : isZero v.status = true) (h2 : isZero v.status2 = true) :
    onToken v = { v with seq := .wDesel } := by
  rw [onToken, hq]
  exact (if_pos h).trans (if_pos h2)

theorem onToken_notWritten (hq : v.seq = .wStResp) (h : ¬ (isZero v.status = true ∧ isZero v.status2 = true)) :
    onToken v = raise .cardStatusError v := by
  rw [onToken, hq]
  by_cases h1 : isZero v.status = true
  · exact (if_pos h1).trans (if_neg fun h2 => h ⟨h1, h2⟩)
  · exact if_neg h1

end branches

/-! ### The steps -/

/-- Settles O16: step 1 decides by the idle-state bit, and a failed attempt by the count. -/
theorem resetStepDecides : Obligations.ResetStepDecides := by
  unfold Obligations.ResetStepDecides
  intro s st hq
  have idle := idleBit_statusByte st
  by_cases h0 : st.getLsbD 0 = true
  · rw [exec_r1, onToken_resetDone (by exact hq) (by exact idle.trans h0), if_pos h0]
    rfl
  · rw [exec_r1, onToken_resetFailed (by exact hq) (by exact idle.trans (Bool.eq_false_of_not_eq_true h0)), if_neg h0,
      retryReset]
    by_cases hn : s.retryCnt + 1 < 255
    · rw [if_pos (by exact hn), if_pos hn]
      rfl
    · rw [if_neg (by exact hn), if_neg hn]
      rfl

/-- Settles O17: the illegal-command bit first, then the pattern and the nibble. -/
theorem voltageCheckDecides : Obligations.VoltageCheckDecides := by
  unfold Obligations.VoltageCheckDecides
  intro s st p hq
  have illegal := illegalBit_statusByte st
  have echo : echoMatches p = true ↔ p.p3 = 0xAA#8 ∧ p.p2.extractLsb 3 0 = 0x1#4 := by
    rw [echoMatches, r7Pattern_eq, r7Voltage_eq, Bool.and_eq_true, beq_iff_eq, beq_iff_eq]
  by_cases h2 : st.getLsbD 2 = true
  · rw [exec_r7_short s st p h2, onToken_legacy (by exact hq) (by exact illegal.trans h2), if_pos h2]
    rfl
  · have legal := Bool.eq_false_of_not_eq_true h2
    rw [exec_r7_full s st p legal, if_neg h2]
    by_cases he : p.p3 = 0xAA#8 ∧ p.p2.extractLsb 3 0 = 0x1#4
    · rw [onToken_v2 (by exact hq) (by exact illegal.trans legal) (by exact echo.mpr he), if_pos he]
      rfl
    · rw [onToken_mismatch (by exact hq) (by exact illegal.trans legal)
        (by exact Bool.eq_false_of_not_eq_true (mt echo.mp he)), if_neg he]
      rfl

/-- Settles O18: the illegal-command bit first, then the window. -/
theorem ocrCheckDecides : Obligations.OcrCheckDecides := by
  unfold Obligations.OcrCheckDecides
  intro s st p hq
  have illegal := illegalBit_statusByte st
  have window := voltageInWindow_iff p
  by_cases h2 : st.getLsbD 2 = true
  · rw [exec_r3_short s st p h2, onToken_illegal (.inl (by exact hq)) (by exact illegal.trans h2), if_pos h2]
    rfl
  · have legal := Bool.eq_false_of_not_eq_true h2
    rw [exec_r3_full s st p legal, if_neg h2]
    by_cases hw : p.p1 = 0x00#8 ∧ p.p2.getLsbD 7 = false
    · rw [onToken_noWindow (by exact hq) (by exact illegal.trans legal) (by exact window.mpr hw), if_pos hw]
      rfl
    · rw [onToken_window (by exact hq) (by exact illegal.trans legal)
        (by exact Bool.eq_true_of_not_eq_false (mt window.mp hw)), if_neg hw]
      rfl

/-- Settles O19: after command 55 there is one way on, after command 41 the idle-state bit and the version class
decide. -/
theorem idleWaitDecides : Obligations.IdleWaitDecides := by
  unfold Obligations.IdleWaitDecides
  refine ⟨fun s st hq => ?announced, fun s st hq => ?loop⟩
  case announced =>
    rw [exec_r1, onToken_announced (by exact hq)]
  case loop =>
    have idle := idleBit_statusByte st
    by_cases h0 : st.getLsbD 0 = true
    · rw [exec_r1, onToken_stillIdle (by exact hq) (by exact idle.trans h0), if_pos h0]
      rfl
    · have left := idle.trans (Bool.eq_false_of_not_eq_true h0)
      rw [exec_r1, if_neg h0]
      by_cases hv : s.cs.versionClass = .v2
      · rw [onToken_askCapacity (by exact hq) (by exact left) (by exact hv), if_pos hv]
        rfl
      · rw [onToken_assumeStandard (by exact hq) (by exact left) (by exact hv), if_neg hv]
        rfl

/-- Settles O20: the illegal-command bit first, then the capacity bit. -/
theorem capacityDetectDecides : Obligations.CapacityDetectDecides := by
  unfold Obligations.CapacityDetectDecides
  intro s st p hq
  have illegal := illegalBit_statusByte st
  have ccs := ocrCcs_eq p
  by_cases h2 : st.getLsbD 2 = true
  · rw [exec_r3_short s st p h2, onToken_illegal (.inr (by exact hq)) (by exact illegal.trans h2), if_pos h2]
    rfl
  · have legal := Bool.eq_false_of_not_eq_true h2
    rw [exec_r3_full s st p legal, if_neg h2]
    by_cases h6 : p.p0.getLsbD 6 = true
    · rw [onToken_high (by exact hq) (by exact illegal.trans legal) (by exact ccs.trans h6), if_pos h6]
    · rw [onToken_standard (by exact hq) (by exact illegal.trans legal)
        (by exact ccs.trans (Bool.eq_false_of_not_eq_true h6)), if_neg h6]

/-- Settles O21: the status byte is zero when its bits 6:0 are. -/
theorem blockLenDecides : Obligations.BlockLenDecides := by
  unfold Obligations.BlockLenDecides
  intro s st hq
  have zero := isZero_statusByte st
  by_cases h : st = 0#7
  · rw [exec_r1, onToken_blockLenSet (by exact hq) (by exact zero.trans (decide_eq_true h)), if_pos h]
  · rw [exec_r1, onToken_nonzero (.inl (by exact hq)) (by exact zero.trans (decide_eq_false h)), if_neg h]
    rfl

/-! ### The entry -/

theorem step_of_iClk {s : State} (hq : s.seq = .iClk) :
    step s = .next (goto .iSel (busSetClk s.params.clkDivInit s)) :=
  step_of_control (c := .clkInit) (by rw [select, hq])

theorem step_of_iSel {s : State} (hq : s.seq = .iSel) :
    step s = .next (goto .i1Send (busSelect { s with retryCnt := 0 })) :=
  step_of_control (c := .selectInit) (by rw [select, hq])

/-- Settles O32: the two actions of the entry, one after the other. -/
theorem initSetsTheClockThenSelects : Obligations.InitSetsTheClockThenSelects := by
  unfold Obligations.InitSetsTheClockThenSelects
  intro s hq
  have events : s.trace ++ [.clk s.params.clkDivInit] ++ [.sel] = s.trace ++ [.clk s.params.clkDivInit, .sel] :=
    List.append_assoc ..
  rw [← events]
  exact leads_succ (step_of_iClk hq) (leads_one (step_of_iSel rfl))

/-- Settles O31: with `busy` = 0 the request is accepted, and its writes are those of `accept` and `freshSession`. -/
theorem initStartsAFreshSession : Obligations.InitStartsAFreshSession := by
  unfold Obligations.InitStartsAFreshSession
  exact fun s hb => execInit_accepted hb

end Sys2Proof.Machine
end

section
/-!
PROOFS. The steps of the block operations (spec 44_block_transfer.md, R210 to R219): the accepting step, select and
translate, the statuses, the token, the data blocks, the data response and the busy-wait.
-/

namespace Sys2Proof.Machine

/-! ### The accepting step, select and translate -/

/-- Settles O33: the guard fails before anything else about the request is looked at. -/
theorem blockOperationsNeedReady : Obligations.BlockOperationsNeedReady := by
  unfold Obligations.BlockOperationsNeedReady
  exact fun s i hb hp => ⟨congrArg _ (acceptBlock_notReady 2#2 .rSel i hb hp),
    congrArg _ (acceptBlock_notReady 3#2 .wSel i hb hp)⟩

/-- Settles O34: the guard holds, and the writes are those of `accept` and the index. -/
theorem blockOperationsStart : Obligations.BlockOperationsStart := by
  unfold Obligations.BlockOperationsStart
  exact fun s i hb hp => ⟨congrArg _ (acceptBlock_ready 2#2 .rSel i hb hp),
    congrArg _ (acceptBlock_ready 3#2 .wSel i hb hp)⟩

/-- At R_SEL and W_SEL a step translates for the class of Card State. -/
theorem step_openBlock {s : State} {next : Seq} (h : s.seq = .rSel ∧ next = .rSend ∨ s.seq = .wSel ∧ next = .wSend) :
    step s = perform (.openBlock next) s := by
  obtain ⟨hq, rfl⟩ | ⟨hq, rfl⟩ := h <;> exact step_of_control (by rw [select, hq])

theorem step_openBlock_known {s : State} {next : Seq} {c : Capacity}
    (h : s.seq = .rSel ∧ next = .rSend ∨ s.seq = .wSel ∧ next = .wSend) (hc : s.cs.capacityClass = .known c) :
    step s = .next { s with trace := s.trace ++ [.sel], addr := translateIndex c s.index, seq := next } := by
  rw [step_openBlock h, perform, hc]
  rfl

/-- Settles O35: the translator's value for each known class, and the fault for Unknown. -/
theorem blockOperationsSelectAndTranslate : Obligations.BlockOperationsSelectAndTranslate := by
  unfold Obligations.BlockOperationsSelectAndTranslate
  refine fun s next h => ⟨fun hc => ?_, fun hc => ?_, fun hc => ?_⟩
  · rw [step_openBlock_known h hc, translateIndex_standard_eq_ofNat]
  · rw [step_openBlock_known h hc, translateIndex_high]
  · rw [step_openBlock h, perform, hc]

/-! ### The statuses -/

/-- Settles O22: the status byte is zero when its bits 6:0 are. -/
theorem blockCommandStatusDecides : Obligations.BlockCommandStatusDecides := by
  unfold Obligations.BlockCommandStatusDecides
  refine ⟨fun s st hq => ?read, fun s st hq => ?write⟩
  case read =>
    have zero := isZero_statusByte st
    by_cases h : st = 0#7
    · rw [exec_r1, onToken_readAccepted (by exact hq) (by exact zero.trans (decide_eq_true h)), if_pos h]
    · rw [exec_r1, onToken_nonzero (.inr (.inl (by exact hq))) (by exact zero.trans (decide_eq_false h)), if_neg h]
      rfl
  case write =>
    have zero := isZero_statusByte st
    by_cases h : st = 0#7
    · rw [exec_r1, onToken_writeAccepted (by exact hq) (by exact zero.trans (decide_eq_true h)), if_pos h]
    · rw [exec_r1, onToken_nonzero (.inr (.inr (by exact hq))) (by exact zero.trans (decide_eq_false h)), if_neg h]
      rfl

/-- A status byte with the illegal-command bit is not zero. -/
theorem isZero_of_illegal {st : BitVec 7} (h : st.getLsbD 2 = true) : isZero (statusByte st) = false := by
  revert st; decide

/-- Settles O23: a short response is never zero, and of a full one both bytes are tested. -/
theorem cardStatusDecides : Obligations.CardStatusDecides := by
  unfold Obligations.CardStatusDecides
  intro s st b hq
  by_cases h2 : st.getLsbD 2 = true
  · have nonzero := isZero_of_illegal h2
    rw [exec_r2_short s st b h2, if_pos h2,
      onToken_notWritten (by exact hq) (by exact fun h => Bool.false_ne_true (nonzero.symm.trans h.1))]
    rfl
  · rw [exec_r2_full s st b (Bool.eq_false_of_not_eq_true h2), if_neg h2]
    have zero : isZero (statusByte st) = true ∧ isZero b = true ↔ st = 0#7 ∧ b = 0#8 := by
      rw [isZero_statusByte, isZero_eq, decide_eq_true_iff, decide_eq_true_iff]
    by_cases h : st = 0#7 ∧ b = 0#8
    · obtain ⟨h1, h2⟩ := zero.mpr h
      rw [onToken_written (by exact hq) (by exact h1) (by exact h2), if_pos h]
    · rw [onToken_notWritten (by exact hq) (by exact mt zero.mp h), if_neg h]
      rfl

/-! ### The start token -/

theorem exec_startToken_received {s : State} (hq : s.seq = .rToken) :
    exec .startToken s =
      .next { s with trace := s.trace ++ receives [0xFE#8], tokCnt := s.tokCnt + 1, seq := .rData } := by
  rw [exec, execStartToken, if_pos hq]
  rfl

theorem exec_startToken_sent {s : State} (hq : s.seq ≠ .rToken) :
    exec .startToken s =
      .next { afterDraws 1 s with trace := s.trace ++ exchanges [0xFE#8] (envBytes 1 s), seq := .wData } := by
  rw [exec, execStartToken, if_neg hq, xchgSend_eq]
  rfl

/-- Settles O24: the point tells whether the token is taken or sent. -/
theorem startTokenIsTakenOrSent : Obligations.StartTokenIsTakenOrSent := by
  unfold Obligations.StartTokenIsTakenOrSent
  exact ⟨fun s hq => exec_startToken_received hq, fun s hq => exec_startToken_sent (by rw [hq]; nofun)⟩

/-- One answer is the byte drawn. -/
theorem draw_of_envBytes {s : State} {b : Byte} (h : envBytes 1 s = [b]) : draw s = (b, afterDraws 1 s) := by
  rw [envBytes_succ, envBytes_zero] at h
  rw [← draw_state, ← List.head_eq_of_cons_eq h]

theorem step_tokenSkipped {s : State} {b : Byte} (hq : s.seq = .rToken) (h : envBytes 1 s = [b]) (hb : b ≠ 0xFE#8) :
    step s = .next (skipTokenByte b (afterDraws 1 s)) := by
  have hd := draw_of_envBytes h
  have hsel : select s = selectToken s := by rw [select, hq]
  rw [selectToken_skip (by rw [hd]; exact hb), hd] at hsel
  exact step_of_control hsel

/-- Settles O25: the byte is skipped and counted, and the count decides. -/
theorem tokenWaitSkipsEveryOtherByte : Obligations.TokenWaitSkipsEveryOtherByte := by
  unfold Obligations.TokenWaitSkipsEveryOtherByte
  intro s b hq h hb
  rw [step_tokenSkipped hq h hb, skipTokenByte]
  by_cases hn : s.tokCnt + 1 < s.params.tokenBudget
  · rw [if_pos (by exact hn), if_pos hn, ← hq]
    rfl
  · rw [if_neg (by exact hn), if_neg hn]
    rfl

/-! ### The data blocks -/

/-- Settles O26: the block is written over the buffer from cell 0 upward. -/
theorem readDataFillsTheBuffer : Obligations.ReadDataFillsTheBuffer := by
  unfold Obligations.ReadDataFillsTheBuffer
  intro s payload c0 c1 hl
  refine ⟨_, exec_readData s payload c0 c1, fun k hk => ?inside, fun a ha => ?outside, fun hwf => ?canonical, rfl⟩
  case inside =>
    have := Memory.read_writeBytes_inside payload s.buf 0 k (by omega)
    rwa [Nat.zero_add] at this
  case outside => exact Memory.read_writeBytes_outside payload s.buf 0 a (by omega)
  case canonical => exact Memory.writeBytes_wf (Nat.le_of_eq ((Nat.zero_add _).trans hl)) hwf

/-- The k-th byte of the block is what cell k holds. -/
theorem getElem?_bufBytes {m : Memory} {k : Nat} {b : Byte} (hk : k < Config.blockSize) (h : Memory.read m k = some b) :
    (bufBytes m)[k]? = some b := by
  rw [bufBytes, List.getElem?_map, List.getElem?_range hk, Option.map_some, bufByte_of_read h]

/-- Settles O27: the exchanges are `exec_writeData`, and the operand at W_DATA is the buffer's block. -/
theorem writeDataSendsTheBuffer : Obligations.WriteDataSendsTheBuffer := by
  unfold Obligations.WriteDataSendsTheBuffer
  refine ⟨fun s payload hl => ?sent, fun s hq => ⟨bufBytes s.buf, bufBytes_length s.buf, fun k b hk h => ?cell, ?step⟩⟩
  case sent => rw [exec_writeData, hl]
  case cell => exact getElem?_bufBytes hk h
  case step => exact step_of_instr (by rw [select, hq])

/-! ### The data response and the busy-wait -/

/-- Settles O28: the predicate is on the code alone. -/
theorem dataResponseDecides : Obligations.DataResponseDecides := by
  unfold Obligations.DataResponseDecides
  intro s ignored code
  rw [exec, execDataResp]
  by_cases h : code = 0b00101#5
  · rw [if_pos (by rw [h]; rfl), if_pos h]
    rfl
  · rw [if_neg (by simpa [accepted] using h), if_neg h]
    rfl

theorem step_busy {s : State} {b : Byte} (hq : s.seq = .wBusy) (h : envBytes 1 s = [b]) :
    step s = .next (busyWaitByte b (afterDraws 1 s)) := by
  have hd := draw_of_envBytes h
  have hsel : select s = .control (.busy (draw s).1) (draw s).2 := by rw [select, hq]
  rw [hd] at hsel
  exact step_of_control hsel

/-- Settles O29: a non-zero byte ends the wait, and of a zero byte the count decides. -/
theorem busyWaitPolls : Obligations.BusyWaitPolls := by
  unfold Obligations.BusyWaitPolls
  intro s b hq h
  rw [step_busy hq h, busyWaitByte]
  by_cases hb : b = 0#8
  · rw [if_pos (by rw [hb]; rfl), if_neg (not_not.mpr hb)]
    by_cases hn : s.busyCnt + 1 < s.params.busyBudget
    · rw [if_pos (by exact hn), if_pos hn, ← hq]
      rfl
    · rw [if_neg (by exact hn), if_neg hn]
      rfl
  · rw [if_neg (by rw [isZero_eq, decide_eq_true_iff]; exact hb), if_pos hb]
    rfl

end Sys2Proof.Machine
end

section
/-!
PROOFS. The host's side (spec 10_state.md R41, R46, R104, R240; 70_reset_and_hazards.md R280) and the step as a whole
(R38, R103): which instruction a step runs.
-/

namespace Sys2Proof.Machine

/-! ### IDLE -/

section idle
variable {s : State} {rest : List HostMove}

theorem select_of_idle (hq : s.seq = .idle) : select s = selectIdle s := by
  rw [select, hq]

theorem step_wait (hq : s.seq = .idle) (hm : s.hostQ = []) : step s = .next s :=
  step_of_control (c := .wait) (by rw [select_of_idle hq, selectIdle, hm])

theorem step_request {op : BitVec 2} {i : Word32} (hq : s.seq = .idle) (hm : s.hostQ = .request op i :: rest) :
    step s = exec (decodeRequest op i) { s with hostQ := rest } :=
  step_of_instr (by rw [select_of_idle hq, selectIdle, hm])

theorem step_hostWrite {a : BitVec 9} {b : Byte} (hq : s.seq = .idle) (hb : s.busy = false)
    (hm : s.hostQ = .bufWrite a b :: rest) :
    step s = .next { s with hostQ := rest, buf := Memory.write s.buf a.toNat b } := by
  rw [step_of_control (c := .hostWrite a b) (t := { s with hostQ := rest })
    (by rw [select_of_idle hq, selectIdle, hm]), perform, if_neg (ne_true_of_eq_false hb)]

end idle

/-! ### Requests, reads and codes -/

/-- Settles O30: the codes by R104's table, and a request while `busy` = 1 by the guards of the accepting steps. -/
theorem requestCodesAndIgnoredRequests : Obligations.RequestCodesAndIgnoredRequests := by
  unfold Obligations.RequestCodesAndIgnoredRequests
  refine ⟨fun _ => ⟨rfl, rfl, rfl, rfl⟩, fun _ => rfl, fun s op i hb => ?_⟩
  obtain hi | hi | hi | hi := decodeRequest_cases op i <;> rw [hi]
  · rfl
  · exact execInit_busy hb
  · exact congrArg _ (acceptBlock_busy 2#2 .rSel i hb)
  · exact congrArg _ (acceptBlock_busy 3#2 .wSel i hb)

/-- Settles O41: the codes are closed, and of the nine outcomes each is below 9. -/
theorem outcomeCodes : Obligations.OutcomeCodes := by
  unfold Obligations.OutcomeCodes
  refine ⟨rfl, rfl, rfl, rfl, rfl, fun _ => rfl, rfl, rfl, rfl, fun c => ?_⟩
  cases c <;> decide

/-- Settles O42: the reset values, and the guard of R210 in the phase Uninit. -/
theorem resetState : Obligations.ResetState := by
  unfold Obligations.ResetState
  exact ⟨rfl, rfl, rfl, rfl, rfl, rfl, rfl, fun _ => ⟨_, rfl, rfl, rfl⟩, fun _ => ⟨_, rfl, rfl, rfl⟩⟩

/-- Settles O43: with no move the engine waits, and a cell the host writes is one cell of the buffer. -/
theorem idleWaitsForTheHost : Obligations.IdleWaitsForTheHost := by
  unfold Obligations.IdleWaitsForTheHost
  refine ⟨fun s hq hm => step_wait hq hm, fun s a b rest hq hb hm => ⟨_, step_hostWrite hq hb hm, rfl, ?_, ?_⟩⟩
  · exact Memory.read_write_same ..
  · exact fun c hc => Memory.read_write_other _ _ hc

/-- Settles O44: each register's row of R41. -/
theorem hostReadsOnlyByContract : Obligations.HostReadsOnlyByContract := by
  unfold Obligations.HostReadsOnlyByContract
  refine ⟨fun s r hb hr => ?busy, fun s r hd hr => ?notDone, fun s => ⟨rfl, rfl⟩, fun s hb => ?idle, fun s hd => ?done⟩
  case busy =>
    obtain rfl | rfl | rfl | rfl | rfl | ⟨a, rfl⟩ := hr <;> simp [hostRead, readableWhen, hb]
  case notDone =>
    obtain rfl | rfl := hr <;> simp [hostRead, readableWhen, hd]
  case idle =>
    refine ⟨?_, ?_, ?_, ?_, fun hp => ?_, fun a b hm => ?_⟩ <;> simp [hostRead, readableWhen, *]
  case done =>
    refine ⟨?_, fun hr => ?_⟩ <;> simp [hostRead, readableWhen, *]

/-! ### A step runs the decoded instruction -/

/-- A word read without a byte left over has its extension and nothing more behind the status byte (spec R103). -/
theorem length_of_decodeStatus {sh : Shape} {st : BitVec 7} {tail : List Byte} {i : Instr} (hsh : sh ≠ .r1b)
    (h : decodeStatus sh st tail = .ok (i, [])) : tail.length = extensionLength sh (statusByte st) := by
  cases sh <;> simp only [decodeStatus] at h <;> simp only [extensionLength, statusByte_getLsbD_two]
  case r1b => exact absurd rfl hsh
  case r1 =>
    cases h
    rfl
  case r2 =>
    split_ifs at h ⊢
    · cases h
      rfl
    · split at h <;> cases h
      rfl
  all_goals
    split_ifs at h ⊢
    · cases h
      rfl
    · split at h <;> cases h
      rename_i hp
      rw [← bytes_of_takePayload hp]
      rfl

/-- Where the next bytes are a word of the shape, a response point draws just these. -/
theorem selectResponse_of_decode {sh : Shape} {s : State} {n : Nat} {i : Instr} (hsh : sh ≠ .r1b)
    (h : decode (.response sh) (envBytes n s) = .ok (i, [])) : selectResponse sh s = .instr i (afterDraws n s) := by
  cases n with
  | zero =>
    rw [envBytes_zero] at h
    cases h
  | succ n =>
    rw [envBytes_succ] at h
    rw [afterDraws_succ]
    cases hb : (draw s).1.getLsbD 7 with
    | true =>
      rw [decode_filler sh hb] at h
      injection h with h
      injection h with hi hrest
      have hn : n = 0 := by rw [← envBytes_length n (draw s).2, hrest, List.length_nil]
      rw [selectResponse_filler sh hb, hi, hn, afterDraws_zero]
    | false =>
      have hd := h
      simp only [decode, decodeResponse, hb] at hd
      have hn := length_of_decodeStatus hsh hd
      rw [envBytes_length, statusByte_extract hb] at hn
      simp only [selectResponse, hb, drawN_eq, ← hn, h]
      rfl

/-- Settles O45: at each point what is selected. -/
theorem stepRunsTheDecodedInstruction : Obligations.StepRunsTheDecodedInstruction := by
  unfold Obligations.StepRunsTheDecodedInstruction
  refine ⟨fun s op i rest hq hm => step_request hq hm, fun s sh n i hr h => ?response, fun s => ?points,
    fun s hq h => ?token, fun s i hq h => ?block, fun s i hq h => ?dataResp⟩
  case response =>
    have hsh : sh ≠ .r1b := fun he => readerShape_ne_r1b _ (he ▸ hr)
    exact step_of_instr ((select_reader hr).trans (selectResponse_of_decode hsh h))
  case points =>
    have v2 : decide (s.cs.versionClass = .v2) = wantsHcs s.cs.versionClass := by cases s.cs.versionClass <;> rfl
    rw [v2]
    and_intros <;> intro hq <;> exact step_of_instr (by rw [select, hq])
  case token =>
    have hd := draw_of_envBytes h
    have hsel : select s = selectToken s := by rw [select, hq]
    rw [selectToken_found (by rw [hd]; rfl), hd] at hsel
    exact step_of_instr hsel
  case block =>
    have hsel : select s = selectReadData s := by rw [select, hq]
    refine step_of_instr (hsel.trans ?_)
    rw [selectReadData, drawN_eq]
    exact congrArg (selectDecoded · _) h
  case dataResp =>
    have hsel : select s = selectDataResp s := by rw [select, hq]
    rw [envBytes_succ, envBytes_zero] at h
    refine step_of_instr (hsel.trans ?_)
    rw [selectDataResp, draw_state]
    exact congrArg (selectDecoded · _) h

end Sys2Proof.Machine
end

section
/-!
PROOFS. Runs over a script (spec R106, R132, R150 to R155): a command and its answer, the token wait, the busy-wait and
the host's buffer writes, each as one run that consumes its part of the script and appends its part of the trace.
-/

namespace Sys2Proof.Machine

/-! ### The registers of the reader -/

/-- The registers that sending a command and reading its response write (spec R31, R32, R34). -/
structure Reader where
  frame : Frame
  tokShape : Shape
  status : Byte
  status2 : Byte
  payload : Payload
  extValid : Bool
  pollCnt : Nat
  byteIdx : Nat

/-- `s` with these registers. -/
def withReader (r : Reader) (s : State) : State :=
  { s with
    frame := r.frame, tokShape := r.tokShape, status := r.status, status2 := r.status2, payload := r.payload
    extValid := r.extValid, pollCnt := r.pollCnt, byteIdx := r.byteIdx }

/-- The registers of the reader in a state. -/
def State.reader (s : State) : Reader :=
  ⟨s.frame, s.tokShape, s.status, s.status2, s.payload, s.extValid, s.pollCnt, s.byteIdx⟩

/-! ### A response in the script -/

section response
variable {s : State} {b : Byte} {rest : List Byte}

/-- R1 (spec R151). -/
theorem step_of_r1 (hr : s.seq.readerShape = some .r1) (henv : s.env = b :: rest) (hb : b.getLsbD 7 = false) :
    step s = .next (onToken { s with
      env := rest, trace := s.trace ++ receives [b], pollCnt := s.pollCnt + 1, status := b, tokShape := .r1
      extValid := false }) := by
  have hd := draw_of_cons henv
  have hsel := selectResponse_r1 (s := s) (by rw [hd]; exact hb)
  rw [← select_reader hr, hd] at hsel
  rw [step_of_instr hsel, exec_r1, withStatus, statusByte_extract hb]
  rfl

/-- R2 with both bytes (spec R153). -/
theorem step_of_r2 {c : Byte} (hr : s.seq.readerShape = some .r2) (henv : s.env = b :: c :: rest)
    (hb : b.getLsbD 7 = false) (hl : b.getLsbD 2 = false) :
    step s = .next (onToken { s with
      env := rest, trace := s.trace ++ receives [b, c], pollCnt := s.pollCnt + 1, status := b, status2 := c
      tokShape := .r2, extValid := true }) := by
  have hd := draw_of_cons henv
  have hsel := selectResponse_r2_full (s := s) (by rw [hd]; exact hb) (by rw [hd]; exact hl)
  rw [← select_reader hr, hd, draw_of_cons (s := { s with env := c :: rest }) rfl] at hsel
  rw [step_of_instr hsel, exec_r2_full _ _ _ ((extract_bit2 b).trans hl), withStatus2, statusByte_extract hb]

/-- R3 and R7 with their payload (spec R154, R155). -/
theorem step_of_long {sh : Shape} {p : Payload} (hsh : sh = .r3 ∨ sh = .r7) (hr : s.seq.readerShape = some sh)
    (henv : s.env = b :: (p.bytes ++ rest)) (hb : b.getLsbD 7 = false) (hl : b.getLsbD 2 = false) :
    step s = .next (onToken { s with
      env := rest, trace := s.trace ++ receives (b :: p.bytes), pollCnt := s.pollCnt + 1, status := b, payload := p
      byteIdx := 4, tokShape := sh, extValid := true }) := by
  have hd := draw_of_cons henv
  have hb' : (draw s).1.getLsbD 7 = false := by rw [hd]; exact hb
  have hl' : (draw s).1.getLsbD 2 = false := by rw [hd]; exact hl
  have hp : envBytes 4 (draw s).2 = p.bytes := by rw [hd]; exact envBytes_of_script p.bytes rest rfl rfl
  have hafter : afterDraws 4 (draw s).2 = { s with env := rest } := by
    rw [hd]
    exact afterDraws_of_script p.bytes rest rfl rfl
  have legal := (extract_bit2 b).trans hl
  obtain rfl | rfl := hsh
  · have hsel := (select_reader hr).trans (selectResponse_r3_full hb' hl' hp)
    rw [step_of_instr hsel, hafter, hd, exec_r3_full _ _ _ legal, withPayload, statusByte_extract hb]
  · have hsel := (select_reader hr).trans (selectResponse_r7_full hb' hl' hp)
    rw [step_of_instr hsel, hafter, hd, exec_r7_full _ _ _ legal, withPayload, statusByte_extract hb]

end response

/-! ### A command and its answer -/

section answer
variable {s : State} {i : Instr} {a : Answer} {rest : List Byte}

/-- Behind a point that sends a command stands the one that reads its response. -/
theorem readerShape_of_commandAt (h : commandAt s = some i) : s.seq.afterSend.readerShape ≠ none := by
  unfold commandAt at h
  split at h <;> cases h <;> rename_i hq <;> rw [hq] <;> nofun

/-- The frame of a command, its six answers taken from the script. -/
theorem step_command_of_script {dropped : List Byte} (h : commandAt s = some i) (henv : s.env = dropped ++ rest)
    (hl : dropped.length = 6) :
    ∃ r : Reader, r.pollCnt = 0 ∧ step s = .next (withReader r { s with
      env := rest, trace := s.trace ++ exchanges (encode i) dropped, seq := s.seq.afterSend }) := by
  obtain ⟨f, hf, hs⟩ := step_command h
  refine ⟨(withFrame f s).reader, rfl, hs.trans ?_⟩
  rw [← hf, ← envBytes_of_script dropped rest henv hl, withFrame, afterDraws_of_script dropped rest henv hl]
  rfl

/-- A command and the fillers before its response. -/
theorem reaches_response (h : commandAt s = some i) (ha : a.Timely) (henv : s.env = a.bytes ++ rest) :
    ∃ r : Reader, Reaches s (withReader r { s with
      env := a.response ++ rest
      trace := s.trace ++ exchanges (encode i) a.dropped ++ receives a.fillers
      seq := s.seq.afterSend }) := by
  obtain ⟨hl, hb, hn⟩ := ha
  rw [Answer.bytes, List.append_assoc, List.append_assoc] at henv
  obtain ⟨r, hp, hs⟩ := step_command_of_script h henv hl
  have run := leads_fillers_skipped (s := withReader r { s with
      env := a.fillers ++ (a.response ++ rest), trace := s.trace ++ exchanges (encode i) a.dropped
      seq := s.seq.afterSend }) (readerShape_of_commandAt h) rfl hb
    (by show r.pollCnt + a.fillers.length < 10000; omega)
  exact ⟨{ r with pollCnt := r.pollCnt + a.fillers.length }, reaches_step hs ⟨_, run⟩⟩

/-- Command and fillers and response are the trace of the answer. -/
theorem trace_of_answer (s : State) (i : Instr) (a : Answer) :
    s.trace ++ exchanges (encode i) a.dropped ++ receives a.fillers ++ receives a.response = s.trace ++ a.trace i := by
  rw [Answer.trace, receives_append, List.append_assoc, List.append_assoc]

/-- A command answered by R1 (spec R151). -/
theorem reaches_r1 {b : Byte} (h : commandAt s = some i) (hr : s.seq.afterSend.readerShape = some .r1)
    (ha : a.Timely) (hw : a.response = [b]) (hb : b.getLsbD 7 = false) (henv : s.env = a.bytes ++ rest) :
    ∃ r : Reader, r.status = b ∧ Reaches s (onToken (withReader r { s with
      env := rest, trace := s.trace ++ a.trace i, seq := s.seq.afterSend })) := by
  obtain ⟨r, run⟩ := reaches_response h ha henv
  rw [← trace_of_answer, hw]
  rw [hw] at run
  have last := step_of_r1 (s := withReader r { s with
    env := [b] ++ rest, trace := s.trace ++ exchanges (encode i) a.dropped ++ receives a.fillers
    seq := s.seq.afterSend }) hr rfl hb
  exact ⟨{ r with pollCnt := r.pollCnt + 1, status := b, tokShape := .r1, extValid := false }, rfl,
    reaches_trans run (reaches_step last (reaches_refl _))⟩

/-- A command answered by R2 (spec R153). -/
theorem reaches_r2 {b c : Byte} (h : commandAt s = some i) (hr : s.seq.afterSend.readerShape = some .r2)
    (ha : a.Timely) (hw : a.response = [b, c]) (hb : b.getLsbD 7 = false) (hl : b.getLsbD 2 = false)
    (henv : s.env = a.bytes ++ rest) :
    ∃ r : Reader, r.status = b ∧ r.status2 = c ∧ Reaches s (onToken (withReader r { s with
      env := rest, trace := s.trace ++ a.trace i, seq := s.seq.afterSend })) := by
  obtain ⟨r, run⟩ := reaches_response h ha henv
  rw [← trace_of_answer, hw]
  rw [hw] at run
  have last := step_of_r2 (s := withReader r { s with
    env := [b, c] ++ rest, trace := s.trace ++ exchanges (encode i) a.dropped ++ receives a.fillers
    seq := s.seq.afterSend }) hr rfl hb hl
  exact ⟨{ r with pollCnt := r.pollCnt + 1, status := b, status2 := c, tokShape := .r2, extValid := true }, rfl, rfl,
    reaches_trans run (reaches_step last (reaches_refl _))⟩

/-- A command answered by R3 or R7 with a payload (spec R154, R155). -/
theorem reaches_long {sh : Shape} {b : Byte} {p : Payload} (h : commandAt s = some i) (hsh : sh = .r3 ∨ sh = .r7)
    (hr : s.seq.afterSend.readerShape = some sh) (ha : a.Timely) (hw : a.response = b :: p.bytes)
    (hb : b.getLsbD 7 = false) (hl : b.getLsbD 2 = false) (henv : s.env = a.bytes ++ rest) :
    ∃ r : Reader, r.status = b ∧ r.payload = p ∧ Reaches s (onToken (withReader r { s with
      env := rest, trace := s.trace ++ a.trace i, seq := s.seq.afterSend })) := by
  obtain ⟨r, run⟩ := reaches_response h ha henv
  rw [← trace_of_answer, hw]
  rw [hw] at run
  have last := step_of_long (s := withReader r { s with
    env := b :: p.bytes ++ rest, trace := s.trace ++ exchanges (encode i) a.dropped ++ receives a.fillers
    seq := s.seq.afterSend }) hsh hr rfl hb hl
  exact ⟨{ r with
      pollCnt := r.pollCnt + 1, status := b, payload := p, byteIdx := 4, tokShape := sh, extValid := true }, rfl, rfl,
    reaches_trans run (reaches_step last (reaches_refl _))⟩

end answer

/-! ### The waits of the block operations -/

section waits
variable {s : State} {rest : List Byte}

/-- One scripted byte is one answer. -/
theorem envBytes_one {b : Byte} (h : s.env = b :: rest) :
    envBytes 1 s = [b] ∧ afterDraws 1 s = { s with env := rest } :=
  ⟨envBytes_of_script [b] rest h rfl, afterDraws_of_script [b] rest h rfl⟩

/-- R212: bytes other than the token are skipped while the count is below the budget. -/
theorem reaches_skipped {skipped : List Byte} (hq : s.seq = .rToken) (henv : s.env = skipped ++ rest)
    (hb : ∀ b ∈ skipped, b ≠ 0xFE#8) (hn : s.tokCnt + skipped.length < s.params.tokenBudget) :
    Reaches s { s with
      env := rest, trace := s.trace ++ receives skipped, tokCnt := s.tokCnt + skipped.length } := by
  induction skipped generalizing s with
  | nil =>
    rw [List.nil_append] at henv
    subst henv
    simpa using reaches_refl s
  | cons b bs ih =>
    obtain ⟨hb, hbs⟩ := List.forall_mem_cons.mp hb
    rw [List.length_cons] at hn
    obtain ⟨hone, hafter⟩ := envBytes_one henv
    have first := step_tokenSkipped hq hone hb
    rw [hafter, skipTokenByte, if_pos (by show s.tokCnt + 1 < s.params.tokenBudget; omega)] at first
    have others := ih (s := { s with
      env := bs ++ rest, trace := s.trace ++ receives [b], tokCnt := s.tokCnt + 1 }) hq rfl hbs
      (by show s.tokCnt + 1 + bs.length < s.params.tokenBudget; omega)
    have run := reaches_step first others
    rwa [List.append_assoc, ← receives_append, List.singleton_append, Nat.add_assoc, Nat.add_comm 1] at run

/-- R212: the token ends the wait. -/
theorem step_tokenFound (hq : s.seq = .rToken) (henv : s.env = 0xFE#8 :: rest) :
    step s = .next { s with
      env := rest, trace := s.trace ++ receives [0xFE#8], tokCnt := s.tokCnt + 1, seq := .rData } := by
  obtain ⟨hone, hafter⟩ := envBytes_one henv
  have hd := draw_of_envBytes hone
  have hsel : select s = selectToken s := by rw [select, hq]
  rw [selectToken_found (by rw [hd]; rfl), hd, hafter] at hsel
  rw [step_of_instr hsel, exec_startToken_received (by exact hq)]

/-- R213, R214: the block and its CRC. -/
theorem step_dataRead {data : List Byte} {c0 c1 : Byte} (hq : s.seq = .rData) (hl : data.length = Config.blockSize)
    (henv : s.env = data ++ [c0, c1] ++ rest) :
    step s = .next { s with
      env := rest, buf := Memory.writeBytes s.buf 0 data, trace := s.trace ++ receives data ++ receives [c0, c1]
      byteIdx := 2, seq := .rDesel } := by
  have len : (data ++ [c0, c1]).length = Config.blockSize + 2 := by rw [List.length_append, hl]; rfl
  have hsel : select s = _ :=
    (show select s = selectReadData s by rw [select, hq]).trans
      (selectReadData_eq hl (envBytes_of_script (data ++ [c0, c1]) rest henv len))
  rw [step_of_instr hsel, exec_readData, afterDraws_of_script (data ++ [c0, c1]) rest henv len]

/-- R152, R218: zero bytes are polled while the count is below the budget. -/
theorem reaches_busy {zeros : Nat} (hq : s.seq = .wBusy) (henv : s.env = List.replicate zeros 0x00#8 ++ rest)
    (hn : s.busyCnt + zeros < s.params.busyBudget) :
    Reaches s { s with
      env := rest, trace := s.trace ++ receives (List.replicate zeros 0x00#8), busyCnt := s.busyCnt + zeros } := by
  induction zeros generalizing s with
  | zero =>
    rw [List.replicate_zero, List.nil_append] at henv
    subst henv
    simpa using reaches_refl s
  | succ n ih =>
    obtain ⟨hone, hafter⟩ := envBytes_one henv
    have first := step_busy hq hone
    rw [hafter, busyWaitByte, if_pos (by rfl), if_pos (by show s.busyCnt + 1 < s.params.busyBudget; omega)] at first
    have others := ih (s := { s with
      env := List.replicate n 0x00#8 ++ rest, trace := s.trace ++ receives [0x00#8], busyCnt := s.busyCnt + 1 }) hq rfl
      (by show s.busyCnt + 1 + n < s.params.busyBudget; omega)
    have run := reaches_step first others
    rwa [List.append_assoc, ← receives_append, List.singleton_append, Nat.add_assoc, Nat.add_comm 1] at run

/-- R152, R218: a non-zero byte ends the wait. -/
theorem step_released {b : Byte} (hq : s.seq = .wBusy) (henv : s.env = b :: rest) (hb : b ≠ 0#8) :
    step s = .next { s with
      env := rest, trace := s.trace ++ receives [b], busyCnt := s.busyCnt + 1, seq := .wStSend } := by
  obtain ⟨hone, hafter⟩ := envBytes_one henv
  rw [step_busy hq hone, hafter, busyWaitByte, if_neg (by rw [isZero_eq, decide_eq_true_iff]; exact hb)]
  rfl

/-- R217: an accepting data response. -/
theorem step_dataAccepted {ignored : BitVec 3} (hq : s.seq = .wDresp)
    (henv : s.env = (ignored ++ 0b00101#5) :: rest) :
    step s = .next { s with
      env := rest, trace := s.trace ++ receives [ignored ++ 0b00101#5], dresp := ignored ++ 0b00101#5, busyCnt := 0
      seq := .wBusy } := by
  obtain ⟨hone, hafter⟩ := envBytes_one henv
  have hd := draw_of_envBytes hone
  have hsel : select s = selectDataResp s := by rw [select, hq]
  rw [selectDataResp_eq, hd, hafter] at hsel
  have low : (ignored ++ 0b00101#5).extractLsb' 0 5 = 0b00101#5 := BitVec.extractLsb'_append_eq_right
  have high : (ignored ++ 0b00101#5).extractLsb' 5 3 = ignored := BitVec.extractLsb'_append_eq_left
  rw [step_of_instr hsel, low, high]
  rfl

end waits

/-! ### Buffer writes of the host -/

/-- While the engine is idle the host's buffer writes change the buffer and nothing else. -/
theorem reaches_hostWrites {s : State} {writes : List (BitVec 9 × Byte)} {moves : List HostMove} (hq : s.seq = .idle)
    (hb : s.busy = false) (hm : s.hostQ = writes.map (fun w => HostMove.bufWrite w.1 w.2) ++ moves) :
    ∃ m, Reaches s { s with hostQ := moves, buf := m } := by
  induction writes generalizing s with
  | nil =>
    rw [List.map_nil, List.nil_append] at hm
    subst hm
    exact ⟨s.buf, reaches_refl s⟩
  | cons w ws ih =>
    have first := step_hostWrite hq hb hm
    obtain ⟨m, run⟩ := ih (s := { s with
      hostQ := ws.map (fun w => HostMove.bufWrite w.1 w.2) ++ moves
      buf := Memory.write s.buf w.1.toNat w.2 }) hq hb rfl
    exact ⟨m, reaches_step first run⟩

end Sys2Proof.Machine
end

section
/-!
PROOFS. Whole block operations (spec 44_block_transfer.md, R211 to R222): from the host's request to IDLE, with the
state reached and the bus trace.
-/

namespace Sys2Proof.Machine

section block
variable {s : State} {c : Capacity} {i : Word32} {moves : List HostMove} {rest : List Byte}

/-- A block operation accepted, the card selected, the index translated (spec R211, R215). -/
theorem reaches_blockCommand {op : BitVec 2} {send : Seq} (ho : op = 2#2 ∧ send = .rSend ∨ op = 3#2 ∧ send = .wSend)
    (hq : s.seq = .idle) (hb : s.busy = false) (hp : s.phase = .ready) (hc : s.cs.capacityClass = .known c)
    (hm : s.hostQ = .request op i :: moves) :
    Reaches s { s with
      hostQ := moves, busy := true, done := false, op := op, index := i, addr := translateIndex c i
      trace := s.trace ++ [.sel], seq := send } := by
  obtain ⟨read, write⟩ := blockOperationsStart { s with hostQ := moves } i hb hp
  obtain ⟨rfl, rfl⟩ | ⟨rfl, rfl⟩ := ho
  · exact reaches_step ((step_request hq hm).trans read)
      (reaches_step (step_openBlock_known (.inl ⟨rfl, rfl⟩) hc) (reaches_refl _))
  · exact reaches_step ((step_request hq hm).trans write)
      (reaches_step (step_openBlock_known (.inr ⟨rfl, rfl⟩) hc) (reaches_refl _))

/-- READ_BLOCK of a card that answers (spec R211 to R214, R221). -/
theorem reaches_readBlock {a : Answer} {skipped data : List Byte} {c0 c1 : Byte} (hq : s.seq = .idle)
    (hb : s.busy = false) (hp : s.phase = .ready) (hc : s.cs.capacityClass = .known c)
    (hm : s.hostQ = .request 2#2 i :: moves)
    (henv : s.env = a.bytes ++ (skipped ++ 0xFE#8 :: (data ++ [c0, c1] ++ rest))) (ha : a.Timely)
    (hw : a.response = [0x00#8]) (hs : ∀ b ∈ skipped, b ≠ 0xFE#8) (hn : skipped.length < s.params.tokenBudget)
    (hl : data.length = Config.blockSize) :
    ∃ r : Reader, Reaches s (withReader r { s with
      hostQ := moves, env := rest, busy := false, done := true, resCode := .ok, op := 2#2, index := i
      addr := translateIndex c i, tokCnt := 0 + skipped.length + 1, buf := Memory.writeBytes s.buf 0 data, seq := .idle
      trace := s.trace ++ [.sel] ++ a.trace (.cmd17 (translateIndex c i)) ++ receives skipped ++ receives [0xFE#8] ++
        receives data ++ receives [c0, c1] ++ [.desel] }) := by
  have opened := reaches_blockCommand (.inl ⟨rfl, rfl⟩) hq hb hp hc hm
  obtain ⟨r, hst, answered⟩ := reaches_r1 (s := { s with
    hostQ := moves, busy := true, done := false, op := 2#2, index := i, addr := translateIndex c i
    trace := s.trace ++ [.sel], seq := .rSend }) (i := .cmd17 (translateIndex c i)) rfl rfl ha hw rfl henv
  rw [onToken_readAccepted (by rfl) (by exact congrArg isZero hst)] at answered
  refine ⟨{ r with byteIdx := 2 }, reaches_trans opened (reaches_trans answered ?_)⟩
  exact reaches_trans (reaches_skipped rfl rfl hs (by rw [Nat.zero_add]; exact hn))
    (reaches_step (step_tokenFound rfl rfl) (reaches_step (step_dataRead rfl hl rfl)
      (reaches_step (step_of_desel (.inl rfl)) (reaches_refl _))))

/-- At W_TOKEN and W_DATA the token and the block are sent, and what is received is dropped (spec R216). -/
theorem reaches_blockSent {dropped : List Byte} (hq : s.seq = .wToken) (henv : s.env = dropped ++ rest)
    (hl : dropped.length = 515) :
    Reaches s { s with
      env := rest
      trace := s.trace ++ exchanges (0xFE#8 :: (bufBytes s.buf ++ [0xFF#8, 0xFF#8])) dropped
      byteIdx := 2
      seq := .wDresp } := by
  obtain ⟨d, ds, rfl⟩ := List.exists_cons_of_length_eq_add_one hl
  have hds : ds.length = Config.blockSize + 2 := Nat.succ.inj hl
  obtain ⟨hone, hafter⟩ := envBytes_one (s := s) henv
  have token : step s = .next _ :=
    (step_of_instr (by rw [select, hq])).trans (exec_startToken_sent (by rw [hq]; nofun))
  rw [hone, hafter] at token
  have block := step_writeData (s := { s with
    env := ds ++ rest, trace := s.trace ++ exchanges [0xFE#8] [d], seq := .wData }) rfl
  rw [envBytes_of_script ds rest rfl hds, afterDraws_of_script ds rest rfl hds] at block
  have events := exchanges_append (a := [0xFE#8]) (b := bufBytes s.buf ++ [0xFF#8, 0xFF#8]) (c := [d]) (d := ds) rfl
  rw [List.singleton_append, List.singleton_append] at events
  rw [events, ← List.append_assoc]
  exact reaches_step token (reaches_step block (reaches_refl _))

/-- After the block the data response, the busy-wait and the card status (spec R217 to R219, R221). -/
theorem reaches_blockStored {a : Answer} {ignored : BitVec 3} {zeros : Nat} {released : Byte} (hq : s.seq = .wDresp)
    (henv : s.env = (ignored ++ 0b00101#5) :: (List.replicate zeros 0x00#8 ++ released :: (a.bytes ++ rest)))
    (hr : released ≠ 0#8) (hz : zeros < s.params.busyBudget) (ha : a.Timely) (hw : a.response = [0x00#8, 0x00#8]) :
    ∃ r : Reader, Reaches s (deliver .ok (busDeselect (withReader r { s with
      env := rest, dresp := ignored ++ 0b00101#5, busyCnt := 0 + zeros + 1, seq := .wDesel
      trace := s.trace ++ receives [ignored ++ 0b00101#5] ++ receives (List.replicate zeros 0x00#8) ++
        receives [released] ++ a.trace .cmd13 }))) := by
  obtain ⟨r, hst, hst2, status⟩ := reaches_r2 (s := { s with
    env := a.bytes ++ rest, dresp := ignored ++ 0b00101#5, busyCnt := 0 + zeros + 1, seq := .wStSend
    trace := s.trace ++ receives [ignored ++ 0b00101#5] ++ receives (List.replicate zeros 0x00#8) ++
      receives [released] }) (i := .cmd13) rfl rfl ha hw rfl rfl rfl
  rw [onToken_written (by rfl) (by exact congrArg isZero hst) (by exact congrArg isZero hst2)] at status
  refine ⟨r, reaches_step (step_dataAccepted hq henv) ?_⟩
  refine reaches_trans (reaches_busy rfl rfl (by rw [Nat.zero_add]; exact hz)) ?_
  exact reaches_step (step_released rfl rfl hr)
    (reaches_trans status (reaches_step (step_of_desel (.inr rfl)) (reaches_refl _)))

/-- WRITE_BLOCK to a card that accepts (spec R215 to R219, R221). -/
theorem reaches_writeBlock {a a13 : Answer} {dropped515 : List Byte} {ignored : BitVec 3} {zeros : Nat}
    {released : Byte} (hq : s.seq = .idle) (hb : s.busy = false) (hp : s.phase = .ready)
    (hc : s.cs.capacityClass = .known c) (hm : s.hostQ = .request 3#2 i :: moves)
    (henv : s.env = a.bytes ++ (dropped515 ++ (ignored ++ 0b00101#5) ::
      (List.replicate zeros 0x00#8 ++ released :: (a13.bytes ++ rest))))
    (ha : a.Timely) (hw : a.response = [0x00#8]) (hl : dropped515.length = 515) (hr : released ≠ 0#8)
    (hz : zeros < s.params.busyBudget) (ha13 : a13.Timely) (hw13 : a13.response = [0x00#8, 0x00#8]) :
    ∃ r : Reader, Reaches s (withReader r { s with
      hostQ := moves, env := rest, busy := false, done := true, resCode := .ok, op := 3#2, index := i
      addr := translateIndex c i, dresp := ignored ++ 0b00101#5, busyCnt := 0 + zeros + 1, seq := .idle
      trace := s.trace ++ [.sel] ++ a.trace (.cmd24 (translateIndex c i)) ++
        exchanges (0xFE#8 :: (bufBytes s.buf ++ [0xFF#8, 0xFF#8])) dropped515 ++ receives [ignored ++ 0b00101#5] ++
        receives (List.replicate zeros 0x00#8) ++ receives [released] ++ a13.trace .cmd13 ++ [.desel] }) := by
  have opened := reaches_blockCommand (.inr ⟨rfl, rfl⟩) hq hb hp hc hm
  obtain ⟨r, hst, answered⟩ := reaches_r1 (s := { s with
    hostQ := moves, busy := true, done := false, op := 3#2, index := i, addr := translateIndex c i
    trace := s.trace ++ [.sel], seq := .wSend }) (i := .cmd24 (translateIndex c i)) rfl rfl ha hw rfl henv
  rw [onToken_writeAccepted (by rfl) (by exact congrArg isZero hst)] at answered
  obtain ⟨r', stored⟩ := reaches_blockStored (s := withReader { r with byteIdx := 2 } { s with
    hostQ := moves, busy := true, done := false, op := 3#2, index := i, addr := translateIndex c i, seq := .wDresp
    env := (ignored ++ 0b00101#5) :: (List.replicate zeros 0x00#8 ++ released :: (a13.bytes ++ rest))
    trace := s.trace ++ [.sel] ++ a.trace (.cmd24 (translateIndex c i)) ++
      exchanges (0xFE#8 :: (bufBytes s.buf ++ [0xFF#8, 0xFF#8])) dropped515 }) rfl rfl hr hz ha13 hw13
  exact ⟨r', reaches_trans opened (reaches_trans answered (reaches_trans (reaches_blockSent rfl rfl hl) stored))⟩

end block

/-- Settles O56: the run of `reaches_readBlock`. -/
theorem readBlockDeliversTheBlock : Obligations.ReadBlockDeliversTheBlock := by
  unfold Obligations.ReadBlockDeliversTheBlock
  intro s c i moves dropped fillers skipped data rest c0 c1 hq hb hp hc hm henv hd hf hfn hs hsn hl
  obtain ⟨r, run⟩ := reaches_readBlock (a := ⟨dropped, fillers, [0x00#8]⟩) (skipped := skipped) (data := data)
    (c0 := c0) (c1 := c1) (rest := rest) hq hb hp hc hm (by rw [henv]; simp [Answer.bytes]) ⟨hd, hf, hfn⟩ rfl hs hsn hl
  refine ⟨_, run, rfl, rfl, rfl, rfl, fun k hk => ?block, rfl, hp, rfl, rfl, rfl, ?trace⟩
  case block =>
    have := Memory.read_writeBytes_inside data s.buf 0 k (by omega)
    rwa [Nat.zero_add] at this
  case trace =>
    show s.trace ++ [.sel] ++ Answer.trace _ _ ++ receives skipped ++ receives [0xFE#8] ++ receives data ++
      receives [c0, c1] ++ [.desel] = _
    simp only [Answer.trace, receives_append, List.append_assoc]

/-- Settles O57: the run of `reaches_writeBlock`. -/
theorem writeBlockSendsTheBlock : Obligations.WriteBlockSendsTheBlock := by
  unfold Obligations.WriteBlockSendsTheBlock
  intro s c i moves dropped fillers dropped515 dropped13 fillers13 rest ignored zeros released hq hb hp hc hm henv hd hf
    hfn h515 hr hz hd13 hf13 hfn13
  obtain ⟨r, run⟩ := reaches_writeBlock (a := ⟨dropped, fillers, [0x00#8]⟩)
    (a13 := ⟨dropped13, fillers13, [0x00#8, 0x00#8]⟩) (dropped515 := dropped515) (ignored := ignored) (zeros := zeros)
    (released := released) (rest := rest) hq hb hp hc hm (by rw [henv]; simp [Answer.bytes]) ⟨hd, hf, hfn⟩ rfl
    h515 hr hz ⟨hd13, hf13, hfn13⟩ rfl
  refine ⟨_, run, rfl, rfl, rfl, rfl, rfl, rfl, hp, rfl, rfl, rfl, ?trace⟩
  show s.trace ++ [.sel] ++ Answer.trace _ _ ++ exchanges _ dropped515 ++ receives [ignored ++ 0b00101#5] ++
    receives (List.replicate zeros 0x00#8) ++ receives [released] ++ Answer.trace _ .cmd13 ++ [.desel] = _
  simp only [Answer.trace, receives_append, List.append_assoc]

/-- The block of a buffer whose cells hold the bytes of `bs`. -/
theorem bufBytes_of_reads {m : Memory} {bs : List Byte} (hl : bs.length = 512)
    (h : ∀ k, k < 512 → Memory.read m k = bs[k]?) : bufBytes m = bs := by
  refine List.ext_getElem ((bufBytes_length m).trans hl.symm) fun k _ hk => ?_
  simp only [bufBytes, List.getElem_map, List.getElem_range]
  exact bufByte_of_read ((h k (hl ▸ hk)).trans (List.getElem?_eq_getElem hk))

/-- Settles O58: O57, the host's writes, and O56 for the block the write sent. -/
theorem writeThenReadGivesTheBlockBack : Obligations.WriteThenReadGivesTheBlockBack := by
  unfold Obligations.WriteThenReadGivesTheBlockBack
  intro s c i writes moves a24 a13 a17 dropped515 skipped rest ignored zeros released c0 c1 hq hb hp hc hm henv
    ⟨hd24, hf24, hn24⟩ hw24 h515 hr hz ⟨hd13, hf13, hn13⟩ hw13 ⟨hd17, hf17, hn17⟩ hw17 hs hsn
  obtain ⟨u, write, uq, ub, udone, ures, ubuf, ucs, uphase, uhost, uenv, uparams, utrace⟩ :=
    writeBlockSendsTheBlock s c i _ a24.dropped a24.fillers dropped515 a13.dropped a13.fillers
      (a17.bytes ++ skipped ++ [0xFE#8] ++ bufBytes s.buf ++ [c0, c1] ++ rest) ignored zeros released hq hb hp hc hm
      (by rw [henv]; simp [Answer.bytes, hw24, hw13]) hd24 hf24 hn24 h515 hr hz hd13 hf13 hn13
  obtain ⟨m, host⟩ := reaches_hostWrites uq ub uhost
  obtain ⟨t, read, tq, tb, tdone, tres, tbuf, tcs, tphase, thost, tenv, -, ttrace⟩ :=
    readBlockDeliversTheBlock { u with hostQ := .request 2#2 i :: moves, buf := m } c i moves a17.dropped a17.fillers
      skipped (bufBytes s.buf) rest c0 c1 uq ub uphase ((congrArg CardState.capacityClass ucs).trans hc) rfl
      (uenv.trans (by simp [Answer.bytes, hw17])) hd17 hf17 hn17 hs (by exact uparams ▸ hsn) (bufBytes_length _)
  refine ⟨u, t, write, uq, udone, ures, ubuf, ?_, reaches_trans host read, tq, tb, tdone, tres,
    bufBytes_of_reads (bufBytes_length _) tbuf, tcs.trans ucs, tphase, thost, tenv, ?_⟩
  · have response := receives_append [ignored ++ 0b00101#5] (List.replicate zeros 0x00#8 ++ [released])
    rw [List.singleton_append] at response
    rw [response, utrace]
    simp only [Answer.trace, hw24, hw13, List.append_assoc]
  · simp only [ttrace, Answer.trace, hw17, List.append_assoc]

end Sys2Proof.Machine
end

section
/-!
PROOFS. Whole runs of INIT (spec 43_initialization.md, R180 to R191): the entry, each step answered from the script, and
the two exits.
-/

namespace Sys2Proof.Machine

/-! ### Chaining runs -/

theorem exists_reaches_of_reaches {s u : State} {P : State → Prop} (h : Reaches s u) (h' : ∃ t, Reaches u t ∧ P t) :
    ∃ t, Reaches s t ∧ P t :=
  h'.imp fun _ ⟨run, ht⟩ => ⟨reaches_trans h run, ht⟩

/-- The same where the registers of the reader are not said of the state between. -/
theorem exists_reaches_of_run {s : State} {u : Reader → State} {P : State → Prop} (h : ∃ r, Reaches s (u r))
    (h' : ∀ r, ∃ t, Reaches (u r) t ∧ P t) : ∃ t, Reaches s t ∧ P t :=
  h.elim fun r run => exists_reaches_of_reaches run (h' r)

/-! ### The entry and the attempts of step 1 -/

section
variable {s : State} {a : Answer} {b : Byte} {rest : List Byte}

/-- INIT accepted, the divider asked for, the card selected (spec R180, R181). -/
theorem reaches_initEntry {index : Word32} {moves : List HostMove} (hq : s.seq = .idle) (hb : s.busy = false)
    (hm : s.hostQ = .request 1#2 index :: moves) :
    Reaches s { s with
      hostQ := moves, busy := true, done := false, op := 1#2, phase := .uninit, retryCnt := 0, seq := .i1Send
      cs := { versionClass := .unknown, capacityClass := .unknown, writeProtected := false }
      trace := s.trace ++ [.clk s.params.clkDivInit, .sel] } :=
  reaches_step ((step_request hq hm).trans (initStartsAFreshSession { s with hostQ := moves } hb))
    ⟨2, initSetsTheClockThenSelects _ rfl⟩

theorem retryReset_eq : retryReset s = { s with
    retryCnt := s.retryCnt + 1, seq := if s.retryCnt + 1 < 255 then .i1Send else .fail .timeout } := by
  rw [retryReset]
  by_cases h : s.retryCnt + 1 < 255
  · rw [if_pos (by exact h), if_pos h]
    rfl
  · rw [if_neg (by exact h), if_neg h]
    rfl

/-- What is received when no card answers: the reader's budget of bytes with bit 7 set (spec R159). -/
def Answer.Unanswered (a : Answer) : Prop :=
  a.dropped.length = 6 ∧ a.fillers.length = 10000 ∧ (∀ b ∈ a.fillers, b.getLsbD 7 = true) ∧ a.response = []

/-- An attempt of step 1 that no card answers (spec R159, R182). -/
theorem reaches_unanswered (hq : s.seq = .i1Send) (henv : s.env = a.bytes ++ rest) (ha : a.Unanswered) :
    ∃ r : Reader, Reaches s (withReader r { s with
      env := rest, trace := s.trace ++ a.trace .cmd0, retryCnt := s.retryCnt + 1
      seq := if s.retryCnt + 1 < 255 then .i1Send else .fail .timeout }) := by
  obtain ⟨hd, hl, hb, hw⟩ := ha
  have hc : commandAt s = some .cmd0 := by rw [commandAt, hq]
  rw [Answer.bytes, hw, List.append_nil, List.append_assoc] at henv
  obtain ⟨r, hp, sent⟩ := step_command_of_script hc henv hd
  have polled := leads_fillers_timeout (s := withReader r { s with
      env := a.fillers ++ rest, trace := s.trace ++ exchanges (encode .cmd0) a.dropped, seq := s.seq.afterSend })
    (readerShape_of_commandAt hc) rfl hb (List.ne_nil_of_length_eq_add_one hl)
    (by show r.pollCnt + a.fillers.length = 10000; rw [hp, hl])
  rw [onTimeout_reset _ (by show s.seq.afterSend = _; rw [hq]; rfl), retryReset_eq] at polled
  rw [Answer.trace, hw, List.append_nil, ← List.append_assoc]
  exact ⟨{ r with pollCnt := Config.respBudget, extValid := false }, reaches_step sent ⟨_, polled⟩⟩

/-- The attempts of step 1, none answered, up to the last (spec R182). -/
theorem reaches_noCard {attempts : List Answer} (hne : attempts ≠ []) (hq : s.seq = .i1Send)
    (henv : s.env = attempts.flatMap Answer.bytes ++ rest) (hn : s.retryCnt + attempts.length = 255)
    (ha : ∀ a ∈ attempts, a.Unanswered) :
    ∃ r : Reader, Reaches s (withReader r { s with
      env := rest, trace := s.trace ++ attempts.flatMap (fun a => a.trace .cmd0), retryCnt := 255
      seq := .fail .timeout }) := by
  induction attempts generalizing s with
  | nil => exact absurd rfl hne
  | cons a as ih =>
    obtain ⟨ha, has⟩ := List.forall_mem_cons.mp ha
    rw [List.flatMap_cons, List.append_assoc] at henv
    rw [List.length_cons] at hn
    obtain ⟨r, first⟩ := reaches_unanswered hq henv ha
    rw [List.flatMap_cons, ← List.append_assoc]
    by_cases hnil : as = []
    · subst hnil
      have last : s.retryCnt + 1 = 255 := hn
      rw [if_neg (by omega), last] at first
      rw [List.flatMap_nil, List.append_nil]
      exact ⟨r, first⟩
    · have := List.length_pos_of_ne_nil hnil
      rw [if_pos (by omega)] at first
      obtain ⟨r', others⟩ := ih (s := withReader r { s with
        env := as.flatMap Answer.bytes ++ rest, trace := s.trace ++ a.trace .cmd0, retryCnt := s.retryCnt + 1
        seq := .i1Send }) hnil rfl rfl (by show s.retryCnt + 1 + as.length = 255; omega) has
      exact ⟨r', reaches_trans first others⟩

/-! ### The steps of a card that answers -/

/-- Step 1 (spec R182). -/
theorem reaches_reset (hq : s.seq = .i1Send) (henv : s.env = a.bytes ++ rest) (ha : a.Timely) (hw : a.response = [b])
    (hb : b.getLsbD 7 = false) (hi : b.getLsbD 0 = true) :
    ∃ r : Reader, Reaches s (withReader r { s with
      env := rest, trace := s.trace ++ a.trace .cmd0, retryCnt := s.retryCnt + 1, seq := .i2Send }) := by
  obtain ⟨r, rfl, run⟩ := reaches_r1 (i := .cmd0) (by rw [commandAt, hq]) (by rw [hq]; rfl) ha hw hb henv
  rw [onToken_resetDone (by show s.seq.afterSend = _; rw [hq]; rfl) (by exact hi)] at run
  exact ⟨r, run⟩

/-- Step 2 of a card that echoes (spec R183). -/
theorem reaches_echo {p : Payload} (hq : s.seq = .i2Send) (henv : s.env = a.bytes ++ rest) (ha : a.Timely)
    (hw : a.response = b :: p.bytes) (hb : b.getLsbD 7 = false) (hl : b.getLsbD 2 = false) (hp : echoMatches p = true) :
    ∃ r : Reader, Reaches s (afterVersion (setVersion .v2 (withReader r { s with
      env := rest, trace := s.trace ++ a.trace .cmd8, seq := .i2Resp }))) := by
  obtain ⟨r, rfl, rfl, run⟩ := reaches_long (i := .cmd8) (sh := .r7) (by rw [commandAt, hq]) (.inr rfl)
    (by rw [hq]; rfl) ha hw hb hl henv
  have at2 : s.seq.afterSend = .i2Resp := by rw [hq]; rfl
  rw [at2, onToken_v2 rfl (by exact hl) (by exact hp)] at run
  exact ⟨r, run⟩

/-- Step 3, where `OCR_CHECK` asks for it (spec R184). -/
theorem reaches_window {p : Payload}
    (henv : s.env = (if s.params.ocrCheck = true then a.bytes else []) ++ rest) (ha : a.Timely)
    (hw : a.response = b :: p.bytes) (hb : b.getLsbD 7 = false) (hl : b.getLsbD 2 = false)
    (hp : voltageInWindow p = true) :
    ∃ r : Reader, Reaches (afterVersion s) (withReader r { s with
      env := rest, trace := s.trace ++ (if s.params.ocrCheck = true then a.trace .cmd58 else []), acmdCnt := 0
      seq := .i4aSend }) := by
  rw [afterVersion]
  by_cases ho : s.params.ocrCheck = true
  · rw [if_pos ho] at henv
    rw [if_pos ho, if_pos ho]
    obtain ⟨r, rfl, rfl, run⟩ := reaches_long (s := { s with seq := .i3Send }) (i := .cmd58) (sh := .r3) rfl (.inl rfl)
      rfl ha hw hb hl henv
    rw [onToken_window rfl (by exact hl) (by exact hp)] at run
    exact ⟨r, run⟩
  · rw [if_neg ho, List.nil_append] at henv
    rw [if_neg ho, if_neg ho, List.append_nil]
    subst henv
    exact ⟨s.reader, reaches_refl _⟩

/-- Commands 55 and 41 of one iteration of step 4, for a V2 card (spec R185, R140). -/
theorem reaches_acmd41 {a55 a41 : Answer} {x y : Byte} (hq : s.seq = .i4aSend) (hv : s.cs.versionClass = .v2)
    (henv : s.env = a55.bytes ++ a41.bytes ++ rest) (h55 : a55.Timely) (w55 : a55.response = [x])
    (hx : x.getLsbD 7 = false) (h41 : a41.Timely) (w41 : a41.response = [y]) (hy : y.getLsbD 7 = false) :
    ∃ r : Reader, r.status = y ∧ Reaches s (onToken (withReader r { s with
      env := rest, trace := s.trace ++ a55.trace .cmd55 ++ a41.trace (.acmd41 true), seq := .i4bResp })) := by
  rw [List.append_assoc] at henv
  obtain ⟨r, -, announced⟩ := reaches_r1 (i := .cmd55) (by rw [commandAt, hq]) (by rw [hq]; rfl) h55 w55 hx henv
  rw [onToken_announced (by show s.seq.afterSend = _; rw [hq]; rfl)] at announced
  obtain ⟨r', hst, asked⟩ := reaches_r1 (s := withReader r { s with
    env := a41.bytes ++ rest, trace := s.trace ++ a55.trace .cmd55, seq := .i4bSend }) (i := .acmd41 true)
    (by show some (Instr.acmd41 (wantsHcs s.cs.versionClass)) = _; rw [hv]; rfl) rfl h41 w41 hy rfl
  exact ⟨r', hst, reaches_trans announced asked⟩

/-- The iterations of step 4 that find the card idle (spec R185). -/
theorem reaches_stillIdle {loops : List (Answer × Answer)} (hq : s.seq = .i4aSend) (hv : s.cs.versionClass = .v2)
    (henv : s.env = loops.flatMap (fun l => l.1.bytes ++ l.2.bytes) ++ rest)
    (hl : ∀ l ∈ loops, l.1.Timely ∧ l.2.Timely ∧
      ∃ x y : Byte, l.1.response = [x] ∧ x.getLsbD 7 = false ∧
        l.2.response = [y] ∧ y.getLsbD 7 = false ∧ y.getLsbD 0 = true)
    (hn : s.acmdCnt + loops.length < s.params.acmd41Budget) :
    ∃ r : Reader, Reaches s (withReader r { s with
      env := rest, trace := s.trace ++ loops.flatMap (fun l => l.1.trace .cmd55 ++ l.2.trace (.acmd41 true))
      acmdCnt := s.acmdCnt + loops.length }) := by
  induction loops generalizing s with
  | nil =>
    rw [List.flatMap_nil, List.nil_append] at henv
    subst henv
    rw [List.flatMap_nil, List.append_nil]
    exact ⟨s.reader, reaches_refl _⟩
  | cons l ls ih =>
    obtain ⟨⟨h55, h41, x, y, w55, hx, w41, hy, hi⟩, hls⟩ := List.forall_mem_cons.mp hl
    rw [List.flatMap_cons, List.append_assoc] at henv
    rw [List.length_cons] at hn
    obtain ⟨r, rfl, first⟩ := reaches_acmd41 hq hv henv h55 w55 hx h41 w41 hy
    rw [onToken_stillIdle rfl (by exact hi)] at first
    have again : s.acmdCnt + 1 < s.params.acmd41Budget := by omega
    obtain ⟨r', others⟩ := ih (s := withReader r { s with
      env := ls.flatMap (fun l => l.1.bytes ++ l.2.bytes) ++ rest, acmdCnt := s.acmdCnt + 1
      trace := s.trace ++ l.1.trace .cmd55 ++ l.2.trace (.acmd41 true) }) hq hv rfl hls
      (by show s.acmdCnt + 1 + ls.length < s.params.acmd41Budget; omega)
    rw [if_pos (by exact again), ← hq] at first
    have count : s.acmdCnt + (ls.length + 1) = s.acmdCnt + 1 + ls.length := by omega
    rw [List.flatMap_cons, List.length_cons, ← List.append_assoc, ← List.append_assoc, count]
    exact ⟨r', reaches_trans first others⟩

/-- The iteration of step 4 that finds the card out of idle (spec R185, R186). -/
theorem reaches_ready {a55 a41 : Answer} {x y : Byte} (hq : s.seq = .i4aSend) (hv : s.cs.versionClass = .v2)
    (henv : s.env = a55.bytes ++ a41.bytes ++ rest) (h55 : a55.Timely) (w55 : a55.response = [x])
    (hx : x.getLsbD 7 = false) (h41 : a41.Timely) (w41 : a41.response = [y]) (hy : y.getLsbD 7 = false)
    (hi : y.getLsbD 0 = false) :
    ∃ r : Reader, Reaches s (withReader r { s with
      env := rest, trace := s.trace ++ a55.trace .cmd55 ++ a41.trace (.acmd41 true), acmdCnt := s.acmdCnt + 1
      seq := .i5Send }) := by
  obtain ⟨r, rfl, run⟩ := reaches_acmd41 hq hv henv h55 w55 hx h41 w41 hy
  rw [onToken_askCapacity rfl (by exact hi) (by exact hv)] at run
  exact ⟨r, run⟩

/-- Step 5 of a high-capacity card (spec R186). -/
theorem reaches_high {p : Payload} (hq : s.seq = .i5Send) (henv : s.env = a.bytes ++ rest) (ha : a.Timely)
    (hw : a.response = b :: p.bytes) (hb : b.getLsbD 7 = false) (hl : b.getLsbD 2 = false) (hp : ocrCcs p = true) :
    ∃ r : Reader, Reaches s (withReader r { s with
      env := rest, trace := s.trace ++ a.trace .cmd58, capPending := .high, seq := .iDone }) := by
  obtain ⟨r, rfl, rfl, run⟩ := reaches_long (i := .cmd58) (sh := .r3) (by rw [commandAt, hq]) (.inl rfl)
    (by rw [hq]; rfl) ha hw hb hl henv
  rw [onToken_high (by show s.seq.afterSend = _; rw [hq]; rfl) (by exact hl) (by exact hp)] at run
  exact ⟨r, run⟩

end

/-! ### The operations -/

/-- Every attempt makes the exchanges of its frame and of its polls. -/
theorem length_noCard {attempts : List Answer}
    (ha : ∀ a ∈ attempts, a.Unanswered) :
    (attempts.flatMap (fun a => a.trace .cmd0)).length = attempts.length * (6 + 10000) := by
  induction attempts with
  | nil => rfl
  | cons a as ih =>
    obtain ⟨⟨hd, hl, -, hw⟩, has⟩ := List.forall_mem_cons.mp ha
    have one : (a.trace .cmd0).length = 6 + 10000 := by
      rw [a.trace_length (hd.trans rfl), a.bytes_length, hd, hl, hw, List.length_nil]
    rw [List.flatMap_cons, List.length_append, one, ih has, List.length_cons]
    omega

/-- The failure exit of INIT (spec R189). -/
theorem step_of_initFail {s : State} {r : Reason} (hq : s.seq = .fail r) (hop : s.op = 1#2) :
    step s = .next (deliver r.code (busDeselect (failSession r s))) :=
  failExit_of_init hop ▸ step_of_fail hq

/-- Settles O59: the entry, the attempts, and the failure exit. -/
theorem initWithoutCardTimesOut : Obligations.InitWithoutCardTimesOut := by
  unfold Obligations.InitWithoutCardTimesOut
  intro s moves index attempts rest hq hb hm henv hn ha
  have len := length_noCard ha
  rw [hn] at len
  obtain ⟨r, polled⟩ := reaches_noCard (s := { s with
      hostQ := moves, busy := true, done := false, op := 1#2, phase := .uninit, retryCnt := 0, seq := .i1Send
      cs := { versionClass := .unknown, capacityClass := .unknown, writeProtected := false }
      trace := s.trace ++ [.clk s.params.clkDivInit, .sel] })
    (List.ne_nil_of_length_eq_add_one hn) rfl henv ((Nat.zero_add _).trans hn) ha
  refine ⟨_, reaches_trans (reaches_initEntry hq hb hm) (reaches_trans polled
    (reaches_step (step_of_initFail rfl rfl) (reaches_refl _))),
    rfl, rfl, rfl, rfl, rfl, rfl, rfl, rfl, rfl, rfl, rfl, rfl, rfl, len⟩

/-- Settles O60: the entry, the steps one after the other, and the Ready exit. -/
theorem initReadiesAHighCapacityCard : Obligations.InitReadiesAHighCapacityCard := by
  unfold Obligations.InitReadiesAHighCapacityCard
  intro s moves index a0 a8 a58ocr a55 a41 a58 loops st0 st8 st58ocr st55 st41 st58 e0 e1 e2 o0 o1 o2 o3 q0 q1 q2 q3
    rest hq hb hm henv ha0 ha8 ha58ocr ha55 ha41 ha58 hloops hbudget hw0 hb0 hi0 hw8 hb8 hl8 hvolt hwo hbo hlo hwin hw55
    hb55 hw41 hb41 hi41 hw58 hb58 hl58 hccs
  have window := Bool.eq_true_of_not_eq_false (mt (voltageInWindow_iff ⟨o0, o1, o2, o3⟩).mp hwin)
  have echo : echoMatches ⟨e0, e1, e2, 0xAA#8⟩ = true := by
    rw [echoMatches, r7Pattern_eq, r7Voltage_eq, hvolt]
    rfl
  have ccs : ocrCcs ⟨q0, q1, q2, q3⟩ = true := (ocrCcs_eq _).trans hccs
  simp only [List.append_assoc] at henv
  refine exists_reaches_of_reaches (reaches_initEntry hq hb hm) ?_
  refine exists_reaches_of_run (reaches_reset rfl henv ha0 hw0 hb0 hi0) fun r0 => ?_
  refine exists_reaches_of_run (reaches_echo rfl rfl ha8 hw8 hb8 hl8 echo) fun r8 => ?_
  refine exists_reaches_of_run (reaches_window rfl ha58ocr hwo hbo hlo window) fun rOcr => ?_
  refine exists_reaches_of_run
    (reaches_stillIdle rfl rfl rfl hloops ((Nat.zero_add _).trans_lt hbudget)) fun rIdle => ?_
  refine exists_reaches_of_run (reaches_ready rfl rfl (List.append_assoc ..).symm ha55 hw55 hb55 ha41 hw41 hb41 hi41)
    fun rReady => ?_
  refine exists_reaches_of_run (reaches_high rfl rfl ha58 hw58 hb58 hl58 ccs) fun r58 => ?_
  refine ⟨_, ⟨2, initSucceeds.1 _ rfl⟩, rfl, rfl, rfl, rfl, rfl, rfl, rfl, rfl, rfl, rfl⟩

end Sys2Proof.Machine
end
